-- ==== Sys2Proof/Word.lean ====
section
/-! DEFINITION. The words of the block (00_scope.md R8, R12; 30_encoding.md R80). Every value is unsigned. Times
(whole microseconds, R10) and chip ticks are unbounded and written as Nat. -/

namespace Sys2Proof

/-- A port value: 8 bits (R8). -/
abbrev Byte := BitVec 8

/-- A load value or a counter snapshot: 16 bits (R88, R38). -/
abbrev Half := BitVec 16

/-- A transaction word T: 13 bits, `op` in 12:10, `sel` in 9:8, `data` in 7:0 (R80). -/
abbrev TWord := BitVec 13

end Sys2Proof
end

