-- ==== Sys2Proof/Config.lean ====
section
/-! DEFINITION. The model parameters of the block (00_scope.md R9, R11) and the model's one free value. -/

namespace Sys2Proof

/-- The parameters the spec leaves open (92_eei_decisions.md D3, D9; log 1). Fixed for a machine: no
operation writes them. -/
structure Config where
  /-- `OSC_HZ`, the nominal chip frequency in Hz; positive (R9). -/
  oscHz : Nat
  /-- `RB_COUNT_BIT`: the bit of the read-back byte that requests a counter latch; 3, 4 or 5 (R11). -/
  rbCountBit : Nat
  /-- `RB_STATUS_BIT`: the bit of the read-back byte that requests a status latch; 3, 4 or 5 (R11). -/
  rbStatusBit : Nat
  /-- `RB_ACTIVE_LOW`: when true, a flag bit of 0 requests the latch (R11). -/
  rbActiveLow : Bool
  deriving DecidableEq, Repr

/-- Microseconds per second (the summary table of 00_scope.md section 3). -/
def usPerSecond : Nat := 1000000

/-- The reload value that a raw load value of 0 means (R8). -/
def countMax : Nat := 65536

/-- FREE VALUE (log 8): the elapsed ticks of a channel whose `last_load` is NEVER or later than `now`. R113
gives `elapsedTicks` no value there. It has no body; no state that satisfies the invariant reads it. -/
opaque Config.elapsedUndefined : Option Nat → Nat → Nat

end Sys2Proof
end

