-- ==== Sys2Proof/Machine/Parameters.lean ====
section
/-! DEFINITION. The default values of the model parameters (00_scope.md R9, R11; log 1). -/

namespace Sys2Proof

/-- The defaults of R9 and R11: `OSC_HZ` 1193182, `RB_COUNT_BIT` 5, `RB_STATUS_BIT` 4, `RB_ACTIVE_LOW` false. -/
def Config.defaults : Config :=
  { oscHz := 1193182, rbCountBit := 5, rbStatusBit := 4, rbActiveLow := false }

end Sys2Proof
end

