-- ==== Sys2Proof/Syntax.lean ====
section
/-! DEFINITION. The operations of the block: one constructor per row of opcode_table.json (00_scope.md R4,
30_encoding.md R93). Every operand has exactly the width of its field. -/

namespace Sys2Proof

/-- The three channels (00_scope.md R7). -/
inductive Chan where
  | c0
  | c1
  | c2
  deriving DecidableEq, Repr

/-- The access patterns a MODESET may carry: RW = 1, 2, 3 (30_encoding.md R85). -/
inductive Access where
  | lo
  | hi
  | word
  deriving DecidableEq, Repr

/-- The operations. Bits the block ignores (bits 3:0 of a LATCH byte, the spare bit of a READBACK byte) are
kept as operands, so that no bit of a word is lost in decoding (log 11). -/
inductive Instr where
  /-- LATCH 0 (R161). -/
  | latch0 (ignored : BitVec 4)
  /-- LATCH 1 (R161). -/
  | latch1 (ignored : BitVec 4)
  /-- LATCH 2 (R161). -/
  | latch2 (ignored : BitVec 4)
  /-- MODESET.LO 0 (R163). -/
  | modesetLo0 (m : BitVec 3) (bcd : Bool)
  /-- MODESET.LO 1 (R163). -/
  | modesetLo1 (m : BitVec 3) (bcd : Bool)
  /-- MODESET.LO 2 (R163). -/
  | modesetLo2 (m : BitVec 3) (bcd : Bool)
  /-- MODESET.HI 0 (R164). -/
  | modesetHi0 (m : BitVec 3) (bcd : Bool)
  /-- MODESET.HI 1 (R164). -/
  | modesetHi1 (m : BitVec 3) (bcd : Bool)
  /-- MODESET.HI 2 (R164). -/
  | modesetHi2 (m : BitVec 3) (bcd : Bool)
  /-- MODESET.WORD 0 (R165). -/
  | modesetWord0 (m : BitVec 3) (bcd : Bool)
  /-- MODESET.WORD 1 (R165). -/
  | modesetWord1 (m : BitVec 3) (bcd : Bool)
  /-- MODESET.WORD 2 (R165). -/
  | modesetWord2 (m : BitVec 3) (bcd : Bool)
  /-- READBACK (R168): channel mask, counter request, status request, and the ignored bit. -/
  | readback (mask : BitVec 3) (cnt sta spare : Bool)
  /-- OUTD 0 (R169). -/
  | outd0 (b : Byte)
  /-- OUTD 1 (R169). -/
  | outd1 (b : Byte)
  /-- OUTD 2 (R169). -/
  | outd2 (b : Byte)
  /-- IND 0 (R170). -/
  | ind0
  /-- IND 1 (R170). -/
  | ind1
  /-- IND 2 (R170). -/
  | ind2
  /-- INCMD (R171). -/
  | incmd
  /-- INAUX (R172). -/
  | inaux
  /-- QUERY (R200). -/
  | query
  /-- RESET (R250). -/
  | reset
  deriving DecidableEq, Repr

end Sys2Proof
end

