-- ==== Sys2Proof/WellFormed.lean ====
section
/-! DEFINITION. What can be encoded: the constraints on the parameters (00_scope.md R9, R11) and on a
transaction word (30_encoding.md R80). The operands of `Instr` have the widths of their fields, so a value
that does not fit its field cannot be written as an operand at all. -/

namespace Sys2Proof

/-- A read-back flag may stand in bits 3 to 5 only (R11). -/
def Config.flagBitOk (k : Nat) : Bool := decide (3 ≤ k) && decide (k ≤ 5)

/-- `OSC_HZ` is positive; the two flag bits are distinct and in 3 to 5 (R9, R11). -/
def Config.wf (cfg : Config) : Bool :=
  decide (0 < cfg.oscHz) && Config.flagBitOk cfg.rbCountBit && Config.flagBitOk cfg.rbStatusBit &&
    decide (cfg.rbCountBit ≠ cfg.rbStatusBit)

/-- An operation can be encoded under parameters that satisfy R9 and R11: only then has READBACK its two
distinct flag bits (R87). -/
def Instr.wf (cfg : Config) (i : Instr) : Bool :=
  match i with
  | .readback _ _ _ _ =>
    Config.flagBitOk cfg.rbCountBit && Config.flagBitOk cfg.rbStatusBit &&
      decide (cfg.rbCountBit ≠ cfg.rbStatusBit)
  | _ => true

/-- A transaction word is a number of 13 bits (R80). -/
def wordFits (w : Nat) : Bool := decide (w < 8192)

end Sys2Proof
end

