-- ==== Sys2Proof/Decode.lean ====
section
/-! DEFINITION. The decoder of 30_encoding.md R93, total on every word, and the encoder of R96. The read-back
flags follow the parameters (R87). -/

namespace Sys2Proof

/-- Why a word is ILLEGAL (R94). All three end in the refusal ILLEGAL_TRANSACTION (60_exceptions.md R226). -/
inductive Illegal where
  /-- `op` is 101, 110 or 111 (R81). -/
  | reservedOp
  /-- A field the operation does not use is not zero (R82). -/
  | unusedFieldNotZero
  /-- The number has more than 13 bits, so it is no transaction word (R80, R65; log 10). -/
  | tooWide
  deriving DecidableEq, Repr

/-- What the decoder answers. -/
inductive Decoded where
  | instr (i : Instr)
  | illegal (why : Illegal)
  deriving DecidableEq, Repr

/-- The instruction, if the word is legal. -/
def Decoded.toOption : Decoded → Option Instr
  | .instr i => some i
  | .illegal _ => none

/-- Field `op`, bits 12:10 (R80). -/
def opField (t : TWord) : BitVec 3 := t.extractLsb' 10 3

/-- Field `sel`, bits 9:8 (R80). -/
def selField (t : TWord) : BitVec 2 := t.extractLsb' 8 2

/-- Field `data`, bits 7:0 (R80). -/
def dataField (t : TWord) : Byte := t.extractLsb' 0 8

/-- Field `SC`, bits 7:6 of the command byte (R83). -/
def scField (d : Byte) : BitVec 2 := d.extractLsb' 6 2

/-- Field `RW`, bits 5:4 of the command byte (R83). -/
def rwField (d : Byte) : BitVec 2 := d.extractLsb' 4 2

/-- Field `M`, bits 3:1 of the command byte (R83). -/
def mField (d : Byte) : BitVec 3 := d.extractLsb' 1 3

/-- Field `BCD`, bit 0 of the command byte (R83). -/
def bcdField (d : Byte) : Bool := d.getLsbD 0

/-- Field `MASK`, bits 2:0 of the read-back byte (R87). -/
def maskField (d : Byte) : BitVec 3 := d.extractLsb' 0 3

/-- A read-back flag: the bit, inverted when the flags are active-low (`flag` of R93). -/
def flagField (cfg : Config) (d : Byte) (k : Nat) : Bool := xor (d.getLsbD k) cfg.rbActiveLow

/-- The one of bits 3 to 5 that no read-back flag uses (R87). -/
def spareBit (cfg : Config) : Nat := 12 - cfg.rbCountBit - cfg.rbStatusBit

/-- LATCH on a channel. -/
def Instr.latch (c : Chan) (ignored : BitVec 4) : Instr :=
  match c with
  | .c0 => .latch0 ignored
  | .c1 => .latch1 ignored
  | .c2 => .latch2 ignored

/-- MODESET on a channel, in an access pattern. -/
def Instr.modeset (c : Chan) (a : Access) (m : BitVec 3) (b : Bool) : Instr :=
  match a, c with
  | .lo, .c0 => .modesetLo0 m b
  | .lo, .c1 => .modesetLo1 m b
  | .lo, .c2 => .modesetLo2 m b
  | .hi, .c0 => .modesetHi0 m b
  | .hi, .c1 => .modesetHi1 m b
  | .hi, .c2 => .modesetHi2 m b
  | .word, .c0 => .modesetWord0 m b
  | .word, .c1 => .modesetWord1 m b
  | .word, .c2 => .modesetWord2 m b

/-- OUTD on a channel. -/
def Instr.outd (c : Chan) (b : Byte) : Instr :=
  match c with
  | .c0 => .outd0 b
  | .c1 => .outd1 b
  | .c2 => .outd2 b

/-- IND on a channel. -/
def Instr.ind (c : Chan) : Instr :=
  match c with
  | .c0 => .ind0
  | .c1 => .ind1
  | .c2 => .ind2

/-- The channel form of the command byte (R85). -/
def decodeChannelCommand (c : Chan) (d : Byte) : Instr :=
  match (rwField d).toNat with
  | 0 => .latch c (d.extractLsb' 0 4)
  | 1 => .modeset c .lo (mField d) (bcdField d)
  | 2 => .modeset c .hi (mField d) (bcdField d)
  | _ => .modeset c .word (mField d) (bcdField d)

/-- The command byte: a WRITE to selector 3 (R83, R84). -/
def decodeCommand (cfg : Config) (d : Byte) : Instr :=
  match (scField d).toNat with
  | 0 => decodeChannelCommand .c0 d
  | 1 => decodeChannelCommand .c1 d
  | 2 => decodeChannelCommand .c2 d
  | _ =>
    .readback (maskField d) (flagField cfg d cfg.rbCountBit) (flagField cfg d cfg.rbStatusBit)
      (d.getLsbD (spareBit cfg))

/-- The operation of a word whose unused fields must be zero, or the reason it is illegal (R82). -/
def decodeUnused (clean : Bool) (i : Instr) : Decoded :=
  if clean then .instr i else .illegal .unusedFieldNotZero

/-- The decoder, in the order of R93. -/
def decode (cfg : Config) (t : TWord) : Decoded :=
  match (opField t).toNat with
  | 0 =>
    match (selField t).toNat with
    | 0 => .instr (.outd .c0 (dataField t))
    | 1 => .instr (.outd .c1 (dataField t))
    | 2 => .instr (.outd .c2 (dataField t))
    | _ => .instr (decodeCommand cfg (dataField t))
  | 1 =>
    match (selField t).toNat with
    | 0 => decodeUnused (dataField t == 0) (.ind .c0)
    | 1 => decodeUnused (dataField t == 0) (.ind .c1)
    | 2 => decodeUnused (dataField t == 0) (.ind .c2)
    | _ => decodeUnused (dataField t == 0) .incmd
  | 2 => decodeUnused (selField t == 0 && dataField t == 0) .inaux
  | 3 => decodeUnused (selField t == 0 && dataField t == 0) .query
  | 4 => decodeUnused (selField t == 0 && dataField t == 0) .reset
  | _ => .illegal .reservedOp

/-- The decoder on any number: a number of more than 13 bits is no transaction word (R80; log 10). -/
def decodeWord (cfg : Config) (w : Nat) : Decoded :=
  if wordFits w then decode cfg (BitVec.ofNat 13 w) else .illegal .tooWide

/-- One bit of a word. -/
def bitAt (b : Bool) (k : Nat) : TWord := (BitVec.ofBool b).setWidth 13 <<< k

/-- `SC` in its place: 0x40 times the channel (R96). -/
def scBits (c : Chan) : TWord :=
  match c with
  | .c0 => 0x000
  | .c1 => 0x040
  | .c2 => 0x080

/-- `sel` in its place: 0x100 times the channel (R96). -/
def selBits (c : Chan) : TWord :=
  match c with
  | .c0 => 0x000
  | .c1 => 0x100
  | .c2 => 0x200

/-- A MODESET word: its base (0x310, 0x320 or 0x330), then 2·m + bcd (R96). -/
def encodeModeset (base : TWord) (c : Chan) (m : BitVec 3) (b : Bool) : TWord :=
  base ||| scBits c ||| (m.setWidth 13 <<< 1) ||| bitAt b 0

/-- The encoder, from the table of R96. The flags of READBACK stand where the parameters put them. -/
def encode (cfg : Config) (i : Instr) : TWord :=
  match i with
  | .latch0 g => 0x300 ||| scBits .c0 ||| g.setWidth 13
  | .latch1 g => 0x300 ||| scBits .c1 ||| g.setWidth 13
  | .latch2 g => 0x300 ||| scBits .c2 ||| g.setWidth 13
  | .modesetLo0 m b => encodeModeset 0x310 .c0 m b
  | .modesetLo1 m b => encodeModeset 0x310 .c1 m b
  | .modesetLo2 m b => encodeModeset 0x310 .c2 m b
  | .modesetHi0 m b => encodeModeset 0x320 .c0 m b
  | .modesetHi1 m b => encodeModeset 0x320 .c1 m b
  | .modesetHi2 m b => encodeModeset 0x320 .c2 m b
  | .modesetWord0 m b => encodeModeset 0x330 .c0 m b
  | .modesetWord1 m b => encodeModeset 0x330 .c1 m b
  | .modesetWord2 m b => encodeModeset 0x330 .c2 m b
  | .readback mask cnt sta spare =>
    0x3C0 ||| mask.setWidth 13 ||| bitAt (xor cnt cfg.rbActiveLow) cfg.rbCountBit |||
      bitAt (xor sta cfg.rbActiveLow) cfg.rbStatusBit ||| bitAt spare (spareBit cfg)
  | .outd0 b => selBits .c0 ||| b.setWidth 13
  | .outd1 b => selBits .c1 ||| b.setWidth 13
  | .outd2 b => selBits .c2 ||| b.setWidth 13
  | .ind0 => 0x400 ||| selBits .c0
  | .ind1 => 0x400 ||| selBits .c1
  | .ind2 => 0x400 ||| selBits .c2
  | .incmd => 0x700
  | .inaux => 0x800
  | .query => 0xC00
  | .reset => 0x1000

/-- The fixed bits of an operation's row of opcode_table.json: its mask and its match. -/
structure Row where
  mask : TWord
  pattern : TWord
  deriving DecidableEq, Repr

/-- A word fits a row when its fixed bits are the row's. -/
def Row.fits (r : Row) (t : TWord) : Bool := t &&& r.mask == r.pattern

/-- The 23 rows of opcode_table.json, in the table's order. -/
def opcodeRows : List Row :=
  [⟨0x1FF0, 0x0300⟩, ⟨0x1FF0, 0x0340⟩, ⟨0x1FF0, 0x0380⟩, ⟨0x1FF0, 0x0310⟩, ⟨0x1FF0, 0x0350⟩,
    ⟨0x1FF0, 0x0390⟩, ⟨0x1FF0, 0x0320⟩, ⟨0x1FF0, 0x0360⟩, ⟨0x1FF0, 0x03A0⟩, ⟨0x1FF0, 0x0330⟩,
    ⟨0x1FF0, 0x0370⟩, ⟨0x1FF0, 0x03B0⟩] ++
  [⟨0x1FC0, 0x03C0⟩, ⟨0x1F00, 0x0000⟩, ⟨0x1F00, 0x0100⟩, ⟨0x1F00, 0x0200⟩, ⟨0x1FFF, 0x0400⟩,
    ⟨0x1FFF, 0x0500⟩, ⟨0x1FFF, 0x0600⟩, ⟨0x1FFF, 0x0700⟩, ⟨0x1FFF, 0x0800⟩, ⟨0x1FFF, 0x0C00⟩,
    ⟨0x1FFF, 0x1000⟩]

/-- The place of an operation's row in `opcodeRows`. -/
def Instr.rowIndex (i : Instr) : Nat :=
  match i with
  | .latch0 _ => 0
  | .latch1 _ => 1
  | .latch2 _ => 2
  | .modesetLo0 _ _ => 3
  | .modesetLo1 _ _ => 4
  | .modesetLo2 _ _ => 5
  | .modesetHi0 _ _ => 6
  | .modesetHi1 _ _ => 7
  | .modesetHi2 _ _ => 8
  | .modesetWord0 _ _ => 9
  | .modesetWord1 _ _ => 10
  | .modesetWord2 _ _ => 11
  | .readback _ _ _ _ => 12
  | .outd0 _ => 13
  | .outd1 _ => 14
  | .outd2 _ => 15
  | .ind0 => 16
  | .ind1 => 17
  | .ind2 => 18
  | .incmd => 19
  | .inaux => 20
  | .query => 21
  | .reset => 22

/-- The row of an operation. -/
def Instr.row (i : Instr) : Row := opcodeRows.getD i.rowIndex ⟨0, 1⟩

/-- HOST: the instruction the decoder reads from a table word of `nbits` bits, under the default parameters. -/
def decodeTableWord (nbits w : Nat) : Option Instr := (decodeWord Config.defaults (w % 2 ^ nbits)).toOption

end Sys2Proof
end

