-- ==== Sys2Proof/Machine/State.lean ====
section
/-! DEFINITION. The architectural state (10_state.md), the reasons a step can stop, and the power-on state
(70_reset_and_hazards.md R252). The block has no memory (20_memory.md R61). -/

namespace Sys2Proof.Machine

/-- The fault reasons of 60_exceptions.md R220. A fault is TAKEN: `State.enterFault` makes the Faulted state of
R227 and the step answers it as a next state, so no step answers `Host.Outcome.fault` (log 4). -/
inductive Fault where
  /-- F1 UNDEFINED_MODE, raised by READBACK (status) and INAUX on a loaded channel in mode 6 or 7 (R221). Safe:
  it is the spec's own outcome. -/
  | undefinedMode
  /-- F2 UNPROGRAMMED_ACCESS, raised by OUTD and IND on a channel no MODESET has programmed (R222). Safe: it is
  the spec's own outcome. -/
  | unprogrammedAccess
  /-- F3 READ_COMMAND_REGISTER, raised by every INCMD (R223). Safe: it is the spec's own outcome. -/
  | readCommandRegister
  deriving DecidableEq, Repr

/-- The refusal reasons: those of 60_exceptions.md R226, and the name for an operation that has no meaning. -/
inductive Refusal where
  /-- An operation without a meaning in this model; no arm of `exec` answers it. Safe. -/
  | notModelled (mnemonic : String)
  /-- RF1 ILLEGAL_TRANSACTION, answered by admission for a word that does not decode (R226). Safe: the spec says
  the model has no step there. -/
  | illegalTransaction
  /-- RF2 TIME_REGRESSION, answered by admission for a time below `t_max` (R226). Safe: as above. -/
  | timeRegression
  /-- RF3 FAULTED, answered by admission once `faulted` is not NONE (R226). Safe: as above. -/
  | faulted
  deriving DecidableEq, Repr

/-- The byte-order cursors (10_state.md R30). -/
inductive Cursor where
  /-- Never programmed since reset. -/
  | unprog
  /-- Low-byte-only pattern. -/
  | lo
  /-- High-byte-only pattern. -/
  | hi
  /-- Word pattern, the next byte is the low byte. -/
  | wlo
  /-- Word pattern, the next byte is the high byte. -/
  | whi
  deriving DecidableEq, Repr

/-- The output events (10_state.md R22). -/
inductive Event where
  /-- One call of the interrupt controller's `lower()`. -/
  | lower
  /-- One call of the interrupt controller's `raise()`. -/
  | raise
  /-- The report that BCD counting was requested. -/
  | bcdUnsupported
  deriving DecidableEq, Repr

/-- The result of QUERY (10_state.md R21, 43_scheduler.md R200). -/
inductive QueryResult where
  /-- NO_EVENT. -/
  | noEvent
  /-- The wait budget, in microseconds. -/
  | budget (us : Nat)
  deriving DecidableEq, Repr

/-- One channel record (the table of 10_state.md section 2). -/
structure Channel where
  /-- `count`: 0 when never loaded, else in [1, 65536] (R25). -/
  count : Nat
  /-- `mode` (R26). -/
  mode : BitVec 3
  /-- `bcd` (R27). -/
  bcd : Bool
  /-- `gate` (R28). -/
  gate : Bool
  /-- `rw_mode` (R29). -/
  rwMode : BitVec 2
  /-- `rcursor` (R30). -/
  rcursor : Cursor
  /-- `wcursor` (R30). -/
  wcursor : Cursor
  /-- `interim` (R31). -/
  interim : Byte
  /-- `last_load`; `none` is NEVER (R32). -/
  lastLoad : Option Nat
  /-- `last_irq`; `none` is NEVER (R33). -/
  lastIrq : Option Nat
  /-- `period` (R34). -/
  period : Nat
  /-- `last_count` (R35). -/
  lastCount : Nat
  /-- `st_pend` (R36). -/
  stPend : Bool
  /-- `ct_pend` (R36). -/
  ctPend : Bool
  /-- `ct_mode` (R36). -/
  ctMode : BitVec 2
  /-- `ct_hi` (R36). -/
  ctHi : Bool
  /-- `status_latch` (R37). -/
  statusLatch : Byte
  /-- `counter_latch` (R38). -/
  counterLatch : Half
  /-- `running` (R39). -/
  running : Bool
  deriving DecidableEq, Repr

/-- An operation the host has issued: the transaction word and its time input (30_encoding.md R80, R96). A
number of more than 13 bits is refused. RESET takes no time, and the time beside it is not read (log 9). -/
structure Request where
  word : Nat
  now : Nat
  deriving DecidableEq, Repr

/-- The state of the block, with its parameters and its interface signals. -/
structure State where
  /-- The model parameters; no operation writes them (log 1). -/
  cfg : Config
  /-- `ch[0]`. -/
  ch0 : Channel
  /-- `ch[1]`. -/
  ch1 : Channel
  /-- `ch[2]`. -/
  ch2 : Channel
  /-- `aux_ff` (R40). -/
  auxFf : Bool
  /-- `faulted`; `none` is NONE (R41). -/
  faulted : Option Fault
  /-- `t_max`; `none` is NONE (R42). -/
  tMax : Option Nat
  /-- Input signals `op`, `sel`, `data`, `now` of the operations not yet applied, oldest first (R20, R21; log 2). -/
  requests : List Request
  /-- Input signal `now` of the operation being applied (R21; log 7). -/
  now : Nat
  /-- Output signal `rdata` of the last operation applied (R21; log 5). -/
  rdata : Option Byte
  /-- Output signal `qresult` of the last operation applied (R21; log 5). -/
  qresult : Option QueryResult
  /-- Output signal `events` of the last operation applied, in emission order (R21, R22; log 5). -/
  events : List Event
  deriving DecidableEq, Repr

/-- The reset value of `gate`: channel 2 starts ungated (R28). -/
def gateAtReset (c : Chan) : Bool :=
  match c with
  | .c0 => true
  | .c1 => true
  | .c2 => false

/-- A channel at its reset values (the reset column of the table of 10_state.md section 2, R49). -/
def Channel.reset (c : Chan) : Channel :=
  { count := 0, mode := 0, bcd := false, gate := gateAtReset c, rwMode := 0, rcursor := .unprog,
    wcursor := .unprog, interim := 0, lastLoad := none, lastIrq := none, period := 0, lastCount := 0,
    stPend := false, ctPend := false, ctMode := 0, ctHi := false, statusLatch := 0, counterLatch := 0,
    running := false }

/-- The power-on state: every channel at reset, `aux_ff` 0, `faulted` and `t_max` NONE (R252), the default
parameters, and nothing on the interface. -/
def State.reset : State :=
  { cfg := Config.defaults, ch0 := Channel.reset .c0, ch1 := Channel.reset .c1, ch2 := Channel.reset .c2,
    auxFf := false, faulted := none, tMax := none, requests := [], now := 0, rdata := none, qresult := none,
    events := [] }

end Sys2Proof.Machine
end

