-- ==== Sys2Proof/Machine/Operands.lean ====
section
/-! DEFINITION. Operand forms: the bytes of a 16-bit quantity, the load value a data byte stands for, the start
of a byte sequence, and the bits of the read-back byte (30_encoding.md section 3, 20_memory.md R62, R63). -/

namespace Sys2Proof.Machine

/-- Bits 7:0 of a 16-bit value (00_scope.md R12). -/
def lowByte (v : Half) : Byte := v.extractLsb' 0 8

/-- Bits 15:8 of a 16-bit value (00_scope.md R12). -/
def highByte (v : Half) : Byte := v.extractLsb' 8 8

/-- The load value of a byte in the low-only pattern: the byte, zero-extended (R88, R63). -/
def loadValueLo (b : Byte) : Half := b.setWidth 16

/-- The load value of a byte in the high-only pattern: `b << 8` (R88, R63). -/
def loadValueHi (b : Byte) : Half := b.setWidth 16 <<< 8

/-- The load value of a completed word: `(b << 8) | interim` (R88). -/
def loadValueWord (b interim : Byte) : Half := (b.setWidth 16 <<< 8) ||| interim.setWidth 16

/-- The reload value of a load value: a raw 0 means 65536 (R89). -/
def reloadValue (v : Half) : Nat := if v = 0 then countMax else v.toNat

/-- `rw_mode` of an access pattern: the RW field (10_state.md R29). -/
def rwModeOf (a : Access) : BitVec 2 :=
  match a with
  | .lo => 1
  | .hi => 2
  | .word => 3

/-- The start value of both cursors in an access pattern (10_state.md R30, 42_port_dispatch.md R162). -/
def startCursor (a : Access) : Cursor :=
  match a with
  | .lo => .lo
  | .hi => .hi
  | .word => .wlo

/-- The bit of the read-back mask that selects a channel (30_encoding.md R87). -/
def maskBit (mask : BitVec 3) (c : Chan) : Bool :=
  match c with
  | .c0 => mask.getLsbD 0
  | .c1 => mask.getLsbD 1
  | .c2 => mask.getLsbD 2

/-- Whether an operation has a time input: every operation but RESET (40_counter_arithmetic.md R110). -/
def hasTime (i : Instr) : Bool :=
  match i with
  | .reset => false
  | _ => true

end Sys2Proof.Machine
end

