-- ==== Sys2Proof/Machine/Admission.lean ====
section
/-! DEFINITION. Admission (60_exceptions.md R226): taking the oldest operation the host has issued, and the three
checks before its own rule runs. -/

namespace Sys2Proof.Machine

/-- What admission answers. -/
inductive Admission where
  /-- No operation waits: the block holds its state (R239; log 3). -/
  | idle
  /-- The operation has no step (R226). -/
  | refuse (r : Refusal)
  /-- The operation runs, from this state. -/
  | run (i : Instr) (s : State)
  deriving DecidableEq, Repr

/-- The time input is below `t_max` (R226, check 3). -/
def timeRegresses (s : State) (now : Nat) : Bool :=
  match s.tMax with
  | none => false
  | some m => decide (now < m)

/-- The state in which an admitted operation runs: the operation is off the interface, and where it has a time
input, that input stands in `now` and in `t_max` (R226). RESET leaves both (10_state.md R42; log 9). -/
def accept (i : Instr) (r : Request) (rest : List Request) (s : State) : State :=
  if hasTime i then { s with requests := rest, now := r.now, tMax := some r.now }
  else { s with requests := rest }

/-- Admission of one operation that waits, in a block that is not Faulted (R226, checks 2 and 3). -/
def admissionOf (r : Request) (rest : List Request) (s : State) : Admission :=
  match decodeWord s.cfg r.word with
  | .illegal _ => .refuse .illegalTransaction
  | .instr i => if hasTime i && timeRegresses s r.now then .refuse .timeRegression else .run i (accept i r rest s)

/-- Admission (R226): the Faulted check comes first, and nothing at all leaves the Faulted state. -/
def admission (s : State) : Admission :=
  match s.faulted with
  | some _ => .refuse .faulted
  | none =>
    match s.requests with
    | [] => .idle
    | r :: rest => admissionOf r rest s

/-- Put an operation at the head of the interface, at the earliest time that is no regression (log 12). -/
def placeRequest (w : Nat) (s : State) : State :=
  { s with requests := { word := w, now := s.tMax.getD 0 } :: s.requests }

end Sys2Proof.Machine
end

