-- ==== Sys2Proof/Machine/Counter.lean ====
section
/-! DEFINITION. Counter arithmetic (40_counter_arithmetic.md): pure functions of the parameters, one channel and
the time input. Every intermediate is exact (00_scope.md R13). -/

namespace Sys2Proof.Machine

/-- Chip ticks to microseconds, floor (R111). -/
def ticksToMicros (cfg : Config) (n : Nat) : Nat := n * usPerSecond / cfg.oscHz

/-- Microseconds to chip ticks, floor (R112). -/
def microsToTicks (cfg : Config) (u : Nat) : Nat := u * cfg.oscHz / usPerSecond

/-- Chip ticks since the last load (R113). Where R113 gives no value, the free value (log 8). -/
def elapsedTicks (cfg : Config) (ch : Channel) (now : Nat) : Nat :=
  match ch.lastLoad with
  | none => Config.elapsedUndefined none now
  | some l => if l ≤ now then microsToTicks cfg (now - l) else Config.elapsedUndefined (some l) now

/-- `(n - t) mod n` with the Euclidean remainder (R114). -/
def countAfter (n : Nat) (t : Nat) : Nat := (((n : Int) - (t : Int)) % (n : Int)).toNat

/-- The live count (R114). -/
def liveCount (cfg : Config) (ch : Channel) (now : Nat) : Nat :=
  if ch.count = 0 then 0 else countAfter ch.count (elapsedTicks cfg ch now)

/-- The phase, which counts up (R116). -/
def phase (cfg : Config) (ch : Channel) (now : Nat) : Nat := elapsedTicks cfg ch now % ch.count

end Sys2Proof.Machine
end

