-- ==== Sys2Proof/Machine/Flags.lean ====
section
/-! DEFINITION. The computed flags of the block: the output level in the eight mode values
(40_counter_arithmetic.md R117 to R123), the status byte (30_encoding.md R90) and the auxiliary byte (R91). -/

namespace Sys2Proof.Machine

/-- Mode 0, one-shot: `(cc >= n) XOR 0` (R118; 90_conflicts.md C1). -/
def level0 (n cc : Nat) : Bool := xor (decide (n ≤ cc)) false

/-- Mode 1, the inverse of mode 0: `(cc >= n) XOR 1` (R119; 90_conflicts.md C1). -/
def level1 (n cc : Nat) : Bool := xor (decide (n ≤ cc)) true

/-- Mode 2, rate generator: low only at phase 1 (R120). -/
def level2 (cc : Nat) : Bool := if cc = 1 then false else true

/-- Mode 3, square wave, with the asymmetric odd and even split (R121; 90_conflicts.md C2, C3). -/
def level3 (n cc : Nat) : Bool :=
  if n % 2 = 1 then decide ((n + 1) / 2 ≤ cc) else decide (cc < (n - 1) / 2)

/-- Modes 4 and 5, strobes: low only at phase 0 (R122). -/
def level45 (cc : Nat) : Bool := if cc = 0 then false else true

/-- The output level of a channel. The test of `count` comes first, so a never-loaded channel gives 0 in every
mode (R117). Modes 6 and 7 have no waveform and fault (R123). -/
def outputLevel (cfg : Config) (ch : Channel) (now : Nat) : Except Fault Bool :=
  if ch.count = 0 then .ok false
  else
    match ch.mode.toNat with
    | 0 => .ok (level0 ch.count (phase cfg ch now))
    | 1 => .ok (level1 ch.count (phase cfg ch now))
    | 2 => .ok (level2 (phase cfg ch now))
    | 3 => .ok (level3 ch.count (phase cfg ch now))
    | 4 => .ok (level45 (phase cfg ch now))
    | 5 => .ok (level45 (phase cfg ch now))
    | _ => .error .undefinedMode

/-- `(level << 7) | (rw_mode << 4) | (mode << 1) | bcd` (R90, 41_channel_ops.md R144). -/
def statusByte (level : Bool) (rw : BitVec 2) (mode : BitVec 3) (bcd : Bool) : Byte :=
  ((BitVec.ofBool level).setWidth 8 <<< 7) ||| (rw.setWidth 8 <<< 4) ||| (mode.setWidth 8 <<< 1) |||
    (BitVec.ofBool bcd).setWidth 8

/-- `(level << 5) | (aux_ff << 4)` (R91, 42_port_dispatch.md R172). -/
def auxByte (level ff : Bool) : Byte :=
  ((BitVec.ofBool level).setWidth 8 <<< 5) ||| ((BitVec.ofBool ff).setWidth 8 <<< 4)

end Sys2Proof.Machine
end

