-- ==== Sys2Proof/Machine/Ops.lean ====
section
/-! DEFINITION. The named operations over the registers: channel access, the output signals, the four channel
operations of 41_channel_ops.md, and entering the Faulted state (60_exceptions.md R227). The block has no return
from a fault (R229). -/

namespace Sys2Proof.Machine

/-- Read a channel record. -/
def State.ch (s : State) (c : Chan) : Channel :=
  match c with
  | .c0 => s.ch0
  | .c1 => s.ch1
  | .c2 => s.ch2

/-- Write a channel record. -/
def State.setCh (s : State) (c : Chan) (x : Channel) : State :=
  match c with
  | .c0 => { s with ch0 := x }
  | .c1 => { s with ch1 := x }
  | .c2 => { s with ch2 := x }

/-- `emit E`: append to the operation's events (00_scope.md R14). -/
def State.emit (s : State) (e : Event) : State := { s with events := s.events ++ [e] }

/-- `emit E` when a condition holds. -/
def State.emitIf (s : State) (p : Bool) (e : Event) : State := if p then s.emit e else s

/-- `return v`: deliver a byte to the host (00_scope.md R14). -/
def State.returnByte (s : State) (v : Byte) : State := { s with rdata := some v }

/-- `return v`: deliver the result of QUERY to the host. -/
def State.returnQuery (s : State) (r : QueryResult) : State := { s with qresult := some r }

/-- The output signals at the start of an operation: nothing returned, nothing emitted (00_scope.md R16). -/
def State.clearOutputs (s : State) : State := { s with rdata := none, qresult := none, events := [] }

/-- Fault entry (60_exceptions.md R227): the state the operation started from, with `faulted` set; the
operation's writes and events are dropped and nothing is returned. -/
def State.enterFault (s : State) (r : Fault) : State := { s.clearOutputs with faulted := some r }

/-- One atomic operation (00_scope.md R15, R16): its body runs from cleared outputs; `raise Fault` anywhere in
it takes the fault from the state the operation started from. -/
def runOp (body : State → Except Fault State) (s : State) : Host.Outcome State Fault Refusal :=
  match body s.clearOutputs with
  | .ok t => .next t
  | .error r => .next (s.enterFault r)

/-- `loadCount` (41_channel_ops.md R140). `last_count` is the live count of the channel just loaded. -/
def loadCount (cfg : Config) (ch : Channel) (v : Half) (now : Nat) : Channel :=
  let loaded : Channel :=
    { ch with
      count := reloadValue v, lastLoad := some now, lastIrq := some now, running := true,
      period := ticksToMicros cfg (reloadValue v) }
  { loaded with lastCount := liveCount cfg loaded now }

/-- The snapshot `latchCounter` stores: one byte of the live count in the single-byte patterns, the whole of it
otherwise (41_channel_ops.md R142). -/
def snapshot (rw : BitVec 2) (v : Half) : Half :=
  match rw.toNat with
  | 1 => (lowByte v).setWidth 16
  | 2 => (highByte v).setWidth 16
  | _ => v

/-- `latchCounter` (41_channel_ops.md R142). -/
def latchCounter (cfg : Config) (ch : Channel) (now : Nat) : Channel :=
  if ch.ctPend then ch
  else
    { ch with
      ctMode := ch.rwMode, ctHi := false,
      counterLatch := snapshot ch.rwMode (BitVec.ofNat 16 (liveCount cfg ch now)), ctPend := true }

/-- `latchStatus` (41_channel_ops.md R144). -/
def latchStatus (cfg : Config) (ch : Channel) (now : Nat) : Except Fault Channel :=
  if ch.stPend then .ok ch
  else
    match outputLevel cfg ch now with
    | .ok lvl => .ok { ch with statusLatch := statusByte lvl ch.rwMode ch.mode ch.bcd, stPend := true }
    | .error r => .error r

/-- `resetChannel` (41_channel_ops.md R146): every field of the record is written. -/
def resetChannel (c : Chan) (ch : Channel) : Channel :=
  { ch with
    count := 0, mode := 0, bcd := false, gate := decide (c ≠ .c2), rwMode := 0, rcursor := .unprog,
    wcursor := .unprog, interim := 0, lastLoad := none, lastIrq := none, period := 0, lastCount := 0,
    stPend := false, ctPend := false, ctMode := 0, ctHi := false, statusLatch := 0, counterLatch := 0,
    running := false }

end Sys2Proof.Machine
end

