-- ==== Sys2Proof/Machine/AuxPort.lean ====
section
/-! DEFINITION. The command-register read INCMD (42_port_dispatch.md R171) and the auxiliary read INAUX (R172). -/

namespace Sys2Proof.Machine

/-- The body of INCMD: the fault, always (R171). -/
def incmdBody (_s : State) : Except Fault State := .error .readCommandRegister

/-- INCMD (R171). -/
def execIncmd (s : State) : Host.Outcome State Fault Refusal := runOp incmdBody s

/-- The body of INAUX: toggle, then report the new flip-flop with channel 2's output level (R172). -/
def inauxBody (s : State) : Except Fault State :=
  let toggled : State := { s with auxFf := !s.auxFf }
  match outputLevel toggled.cfg toggled.ch2 toggled.now with
  | .ok lvl => .ok (toggled.returnByte (auxByte lvl toggled.auxFf))
  | .error r => .error r

/-- INAUX (R172). -/
def execInaux (s : State) : Host.Outcome State Fault Refusal := runOp inauxBody s

end Sys2Proof.Machine
end

