-- ==== Sys2Proof/Machine/DataPort.lean ====
section
/-! DEFINITION. The data registers: OUTD (42_port_dispatch.md R169) and IND (R170). -/

namespace Sys2Proof.Machine

/-- The channel after a data byte is written, by the write cursor (R169). -/
def writeData (cfg : Config) (ch : Channel) (b : Byte) (now : Nat) : Except Fault Channel :=
  match ch.wcursor with
  | .lo => .ok (loadCount cfg ch (loadValueLo b) now)
  | .hi => .ok (loadCount cfg ch (loadValueHi b) now)
  | .wlo => .ok { ch with interim := b, wcursor := .whi }
  | .whi => .ok { loadCount cfg ch (loadValueWord b ch.interim) now with wcursor := .wlo }
  | .unprog => .error .unprogrammedAccess

/-- The body of OUTD (R169). -/
def outdBody (c : Chan) (b : Byte) (s : State) : Except Fault State :=
  match writeData s.cfg (s.ch c) b s.now with
  | .ok x => .ok (s.setCh c x)
  | .error r => .error r

/-- OUTD 0 (R169). -/
def execOutd0 (b : Byte) (s : State) : Host.Outcome State Fault Refusal := runOp (outdBody .c0 b) s

/-- OUTD 1 (R169). -/
def execOutd1 (b : Byte) (s : State) : Host.Outcome State Fault Refusal := runOp (outdBody .c1 b) s

/-- OUTD 2 (R169). -/
def execOutd2 (b : Byte) (s : State) : Host.Outcome State Fault Refusal := runOp (outdBody .c2 b) s

/-- Consume a byte of the counter latch, in the pattern the latch was taken under (R170). -/
def readCounterLatch (ch : Channel) : Except Fault (Channel × Byte) :=
  match ch.ctMode.toNat with
  | 0 => .error .unprogrammedAccess
  | 1 => .ok ({ ch with ctPend := false }, lowByte ch.counterLatch)
  | 2 => .ok ({ ch with ctPend := false }, lowByte ch.counterLatch)
  | _ =>
    if ch.ctHi then .ok ({ ch with ctHi := false, ctPend := false }, highByte ch.counterLatch)
    else .ok ({ ch with ctHi := true }, lowByte ch.counterLatch)

/-- Read a byte of the live count, by the read cursor (R170). -/
def readLive (cfg : Config) (ch : Channel) (now : Nat) : Except Fault (Channel × Byte) :=
  let v : Half := BitVec.ofNat 16 (liveCount cfg ch now)
  match ch.rcursor with
  | .lo => .ok (ch, lowByte v)
  | .hi => .ok (ch, highByte v)
  | .wlo => .ok ({ ch with rcursor := .whi }, lowByte v)
  | .whi => .ok ({ ch with rcursor := .wlo }, highByte v)
  | .unprog => .error .unprogrammedAccess

/-- A data read, in priority order: status latch, counter latch, live count (R170). -/
def readData (cfg : Config) (ch : Channel) (now : Nat) : Except Fault (Channel × Byte) :=
  if ch.stPend then .ok ({ ch with stPend := false }, ch.statusLatch)
  else if ch.ctPend then readCounterLatch ch
  else readLive cfg ch now

/-- The body of IND (R170). -/
def indBody (c : Chan) (s : State) : Except Fault State :=
  match readData s.cfg (s.ch c) s.now with
  | .ok (x, v) => .ok ((s.setCh c x).returnByte v)
  | .error r => .error r

/-- IND 0 (R170). -/
def execInd0 (s : State) : Host.Outcome State Fault Refusal := runOp (indBody .c0) s

/-- IND 1 (R170). -/
def execInd1 (s : State) : Host.Outcome State Fault Refusal := runOp (indBody .c1) s

/-- IND 2 (R170). -/
def execInd2 (s : State) : Host.Outcome State Fault Refusal := runOp (indBody .c2) s

end Sys2Proof.Machine
end

