-- ==== Sys2Proof/Machine/Latch.lean ====
section
/-! DEFINITION. The latching commands: LATCH (42_port_dispatch.md R161) and READBACK (R168). -/

namespace Sys2Proof.Machine

/-- The body of LATCH: `latchCounter(c, now)` and nothing else (R161). -/
def latchBody (c : Chan) (s : State) : Except Fault State :=
  .ok (s.setCh c (latchCounter s.cfg (s.ch c) s.now))

/-- LATCH 0 (R161). -/
def execLatch0 (s : State) : Host.Outcome State Fault Refusal := runOp (latchBody .c0) s

/-- LATCH 1 (R161). -/
def execLatch1 (s : State) : Host.Outcome State Fault Refusal := runOp (latchBody .c1) s

/-- LATCH 2 (R161). -/
def execLatch2 (s : State) : Host.Outcome State Fault Refusal := runOp (latchBody .c2) s

/-- The turn of one channel in READBACK: the counter before the status (R168). -/
def readbackTurn (mask : BitVec 3) (cnt sta : Bool) (c : Chan) (s : State) : Except Fault State :=
  if maskBit mask c then
    let counted := if cnt then latchCounter s.cfg (s.ch c) s.now else s.ch c
    if sta then
      match latchStatus s.cfg counted s.now with
      | .ok latched => .ok (s.setCh c latched)
      | .error r => .error r
    else .ok (s.setCh c counted)
  else .ok s

/-- The body of READBACK: channels in ascending order (R168). -/
def readbackBody (mask : BitVec 3) (cnt sta : Bool) (s : State) : Except Fault State :=
  match readbackTurn mask cnt sta .c0 s with
  | .error r => .error r
  | .ok s0 =>
    match readbackTurn mask cnt sta .c1 s0 with
    | .error r => .error r
    | .ok s1 => readbackTurn mask cnt sta .c2 s1

/-- READBACK (R168). -/
def execReadback (mask : BitVec 3) (cnt sta : Bool) (s : State) : Host.Outcome State Fault Refusal :=
  runOp (readbackBody mask cnt sta) s

end Sys2Proof.Machine
end

