-- ==== Sys2Proof/Machine/Modeset.lean ====
section
/-! DEFINITION. The programming commands MODESET.LO, MODESET.HI and MODESET.WORD (42_port_dispatch.md R162 to R167). -/

namespace Sys2Proof.Machine

/-- The configuration fields a MODESET writes (R162). -/
def configureChannel (a : Access) (m : BitVec 3) (b : Bool) (ch : Channel) : Channel :=
  { ch with
    rwMode := rwModeOf a, rcursor := startCursor a, wcursor := startCursor a, mode := m, bcd := b }

/-- Whether a MODESET raises the interrupt edge: channel 0 with M = 2 (R166). -/
def mode2Quirk (c : Chan) (m : BitVec 3) : Bool := decide (c = .c0) && decide (m = 2)

/-- The common body: the fields, then the BCD report, then the mode-2 quirk (R162, R166, R167). -/
def modesetBody (c : Chan) (a : Access) (m : BitVec 3) (b : Bool) (s : State) : Except Fault State :=
  .ok (((s.setCh c (configureChannel a m b (s.ch c))).emitIf b .bcdUnsupported).emitIf (mode2Quirk c m) .raise)

/-- MODESET.LO 0 (R163). -/
def execModesetLo0 (m : BitVec 3) (b : Bool) (s : State) : Host.Outcome State Fault Refusal :=
  runOp (modesetBody .c0 .lo m b) s

/-- MODESET.LO 1 (R163). -/
def execModesetLo1 (m : BitVec 3) (b : Bool) (s : State) : Host.Outcome State Fault Refusal :=
  runOp (modesetBody .c1 .lo m b) s

/-- MODESET.LO 2 (R163). -/
def execModesetLo2 (m : BitVec 3) (b : Bool) (s : State) : Host.Outcome State Fault Refusal :=
  runOp (modesetBody .c2 .lo m b) s

/-- MODESET.HI 0 (R164). -/
def execModesetHi0 (m : BitVec 3) (b : Bool) (s : State) : Host.Outcome State Fault Refusal :=
  runOp (modesetBody .c0 .hi m b) s

/-- MODESET.HI 1 (R164). -/
def execModesetHi1 (m : BitVec 3) (b : Bool) (s : State) : Host.Outcome State Fault Refusal :=
  runOp (modesetBody .c1 .hi m b) s

/-- MODESET.HI 2 (R164). -/
def execModesetHi2 (m : BitVec 3) (b : Bool) (s : State) : Host.Outcome State Fault Refusal :=
  runOp (modesetBody .c2 .hi m b) s

/-- MODESET.WORD 0 (R165). -/
def execModesetWord0 (m : BitVec 3) (b : Bool) (s : State) : Host.Outcome State Fault Refusal :=
  runOp (modesetBody .c0 .word m b) s

/-- MODESET.WORD 1 (R165). -/
def execModesetWord1 (m : BitVec 3) (b : Bool) (s : State) : Host.Outcome State Fault Refusal :=
  runOp (modesetBody .c1 .word m b) s

/-- MODESET.WORD 2 (R165). -/
def execModesetWord2 (m : BitVec 3) (b : Bool) (s : State) : Host.Outcome State Fault Refusal :=
  runOp (modesetBody .c2 .word m b) s

end Sys2Proof.Machine
end

