-- ==== Sys2Proof/Machine/ResetOp.lean ====
section
/-! DEFINITION. The RESET operation (70_reset_and_hazards.md R250). -/

namespace Sys2Proof.Machine

/-- The body of RESET: every channel, then `aux_ff`; `faulted` and `t_max` stay (R250). -/
def resetBody (s : State) : Except Fault State :=
  .ok { s with
    ch0 := resetChannel .c0 s.ch0, ch1 := resetChannel .c1 s.ch1, ch2 := resetChannel .c2 s.ch2,
    auxFf := false }

/-- RESET (R250). -/
def execReset (s : State) : Host.Outcome State Fault Refusal := runOp resetBody s

end Sys2Proof.Machine
end

