-- ==== Sys2Proof/Machine/Scheduler.lean ====
section
/-! DEFINITION. The scheduler query QUERY (43_scheduler.md R200). -/

namespace Sys2Proof.Machine

/-- A mode that QUERY stops after one wrap: every value but 2 and 3 (R200). -/
def oneShotMode (m : BitVec 3) : Bool := !(decide (m = 2) || decide (m = 3))

/-- The end of QUERY for a channel 0 that keeps running: record the live count, return the budget (R200). -/
def queryKeepRunning (v : Nat) (s : State) : State :=
  { s with ch0 := { s.ch0 with lastCount := v } }.returnQuery (.budget (ticksToMicros s.cfg v))

/-- The body of QUERY: the running test first (90_conflicts.md C6), then the wrap test (R200). -/
def queryBody (s : State) : Except Fault State :=
  if s.ch0.running then
    let v := liveCount s.cfg s.ch0 s.now
    if s.ch0.lastCount < v then
      let notified := (s.emit .lower).emit .raise
      if oneShotMode s.ch0.mode then
        .ok ({ notified with ch0 := { notified.ch0 with running := false } }.returnQuery .noEvent)
      else .ok (queryKeepRunning v notified)
    else .ok (queryKeepRunning v s)
  else .ok (s.returnQuery .noEvent)

/-- QUERY (R200). -/
def execQuery (s : State) : Host.Outcome State Fault Refusal := runOp queryBody s

end Sys2Proof.Machine
end

