-- ==== Sys2Proof/Machine/Dispatch.lean ====
section
/-! DEFINITION. One arm per operation (42_port_dispatch.md R160). -/

namespace Sys2Proof.Machine

/-- The meaning of an operation that has been admitted, at its own time input `s.now`. -/
def exec (i : Instr) (s : State) : Host.Outcome State Fault Refusal :=
  match i with
  | .latch0 _ => Sys2Proof.Machine.execLatch0 s
  | .latch1 _ => Sys2Proof.Machine.execLatch1 s
  | .latch2 _ => Sys2Proof.Machine.execLatch2 s
  | .modesetLo0 m b => Sys2Proof.Machine.execModesetLo0 m b s
  | .modesetLo1 m b => Sys2Proof.Machine.execModesetLo1 m b s
  | .modesetLo2 m b => Sys2Proof.Machine.execModesetLo2 m b s
  | .modesetHi0 m b => Sys2Proof.Machine.execModesetHi0 m b s
  | .modesetHi1 m b => Sys2Proof.Machine.execModesetHi1 m b s
  | .modesetHi2 m b => Sys2Proof.Machine.execModesetHi2 m b s
  | .modesetWord0 m b => Sys2Proof.Machine.execModesetWord0 m b s
  | .modesetWord1 m b => Sys2Proof.Machine.execModesetWord1 m b s
  | .modesetWord2 m b => Sys2Proof.Machine.execModesetWord2 m b s
  | .readback mask cnt sta _ => Sys2Proof.Machine.execReadback mask cnt sta s
  | .outd0 b => Sys2Proof.Machine.execOutd0 b s
  | .outd1 b => Sys2Proof.Machine.execOutd1 b s
  | .outd2 b => Sys2Proof.Machine.execOutd2 b s
  | .ind0 => Sys2Proof.Machine.execInd0 s
  | .ind1 => Sys2Proof.Machine.execInd1 s
  | .ind2 => Sys2Proof.Machine.execInd2 s
  | .incmd => Sys2Proof.Machine.execIncmd s
  | .inaux => Sys2Proof.Machine.execInaux s
  | .query => Sys2Proof.Machine.execQuery s
  | .reset => Sys2Proof.Machine.execReset s

end Sys2Proof.Machine
end

