-- ==== Sys2Proof/Machine/Step.lean ====
section
/-! DEFINITION. One step: the oldest operation the host has issued, admitted and run (00_scope.md R15, R16). -/

namespace Sys2Proof.Machine

/-- One step of the block. -/
def step (s : State) : Host.Outcome State Fault Refusal :=
  match admission s with
  | .idle => .next s
  | .refuse r => .refused r
  | .run i t => exec i t

/-- HOST: the state with the operation of the table word `w` placed where the step takes its next operation. -/
def State.withFetchWord (s : State) (nbits w : Nat) : State := placeRequest (w % 2 ^ nbits) s

end Sys2Proof.Machine
end

