-- ==== Sys2Proof/Safety.lean ====
section
/-! DEFINITION. What holds in every state a run reaches (10_state.md section 4), and what a run without a fault is. -/

namespace Sys2Proof.Machine

/-- A timestamp is NEVER or not later than `t_max` (40_counter_arithmetic.md R110). -/
def notAfter (stamp tMax : Option Nat) : Bool :=
  match stamp, tMax with
  | none, _ => true
  | some _, none => false
  | some a, some b => decide (a ≤ b)

/-- A cursor is one of its access pattern's (10_state.md R29, R30, R46). -/
def cursorFits (rw : BitVec 2) (k : Cursor) : Bool :=
  match k with
  | .unprog => decide (rw = 0)
  | .lo => decide (rw = 1)
  | .hi => decide (rw = 2)
  | .wlo => decide (rw = 3)
  | .whi => decide (rw = 3)

/-- The load fields of a channel agree (R43, R44, R45, R46, R34). -/
abbrev Channel.LoadInv (cfg : Config) (ch : Channel) : Prop :=
  ch.count ≤ 65536 ∧ (ch.count = 0 ↔ ch.lastLoad = none) ∧ ch.lastIrq = ch.lastLoad ∧
    (ch.running = true → ch.count ≠ 0) ∧ (ch.count = 0 → ch.lastCount = 0) ∧
    (ch.count ≠ 0 → ch.lastCount < ch.count) ∧ ch.period = ticksToMicros cfg ch.count

/-- The latch fields of a channel agree (R45; bit 6 of a status byte is 0, 30_encoding.md R90). -/
abbrev Channel.LatchInv (ch : Channel) : Prop :=
  (ch.ctPend = true → (ch.ctMode = 1 ∨ ch.ctMode = 2) → ch.counterLatch.toNat < 256) ∧
    (ch.ctHi = true → ch.ctPend = true ∧ ch.ctMode = 3) ∧ ch.statusLatch.getLsbD 6 = false

/-- Both cursors are those of the access pattern (R46). -/
abbrev Channel.CursorInv (ch : Channel) : Prop :=
  cursorFits ch.rwMode ch.rcursor = true ∧ cursorFits ch.rwMode ch.wcursor = true

/-- What every reachable state says of a channel (R43 to R46, R28, R110). -/
abbrev Channel.Inv (cfg : Config) (tMax : Option Nat) (c : Chan) (ch : Channel) : Prop :=
  ch.LoadInv cfg ∧ ch.LatchInv ∧ ch.CursorInv ∧ ch.gate = gateAtReset c ∧ notAfter ch.lastLoad tMax = true

/-- The invariant of the block. -/
abbrev State.Inv (s : State) : Prop :=
  s.ch0.Inv s.cfg s.tMax .c0 ∧ s.ch1.Inv s.cfg s.tMax .c1 ∧ s.ch2.Inv s.cfg s.tMax .c2

/-- `k` steps from `s` refuse nothing and end in a block that is not Faulted. -/
def RunsWithoutFault (k : Nat) (s : State) : Prop :=
  ∃ t : State, Host.Core.run Sys2Proof.core k s = .next t ∧ t.faulted = none

end Sys2Proof.Machine
end

