-- ==== Sys2Proof/Certificates/Slice0/Obligations.lean ====
section
/-! DEFINITION. The statements for the provers. "42 R169" is rule R169 of spec/42_port_dispatch.md, and so on. A
statement whose basis is 'derived' rests on points the spec itself marks as its own decision or derivation; its
docstring names them. In every statement the time input and the output signals are fields of State, and a fault is a
next state: these are the model's own framing (logs 4, 5 and 7). -/

open Sys2Proof Sys2Proof.Machine

/-! ## Words the statements use -/

namespace Sys2Proof.Claims

/-- The state with nothing returned and nothing emitted. -/
def quiet (s : State) : State := { s with rdata := none, qresult := none, events := [] }

/-- The Faulted state an operation leaves when it faults from `s` (60 R227). -/
def faultedFrom (s : State) (r : Fault) : State := { quiet s with faulted := some r }

/-- What a counter latch taken in access pattern `rw` holds of a live count (41 R142). -/
def frozenCount (rw : BitVec 2) (live : Nat) : Half :=
  BitVec.ofNat 16 (if rw = 1 then live % 256 else if rw = 2 then live % 65536 / 256 else live)

/-- The number `(level << 7) | (rw_mode << 4) | (mode << 1) | bcd` (41 R144). -/
def statusNumber (lvl : Bool) (rw : BitVec 2) (m : BitVec 3) (b : Bool) : Nat :=
  128 * lvl.toNat + 16 * rw.toNat + 2 * m.toNat + b.toNat

/-- A loaded channel in mode 6 or 7: its output level is undefined (40 R123). -/
abbrev levelUndefined (ch : Channel) : Prop := ch.count ≠ 0 ∧ 6 ≤ ch.mode.toNat

/-- The level, where `outputLevel` gives one. -/
def levelOf (cfg : Config) (ch : Channel) (now : Nat) : Bool :=
  match outputLevel cfg ch now with
  | .ok l => l
  | .error _ => false

/-- The channel after a load of the 16-bit value `v` (41 R140). -/
def loaded (cfg : Config) (ch : Channel) (v : Nat) (now : Nat) : Channel :=
  { ch with
    count := if v = 0 then 65536 else v, lastLoad := some now, lastIrq := some now, running := true,
    period := (if v = 0 then 65536 else v) * 1000000 / cfg.oscHz, lastCount := 0 }

/-- The channel after READBACK selected it: the counter fields change when a counter latch is requested and none
is pending, the status fields when a status latch is requested and none is pending (42 R168). -/
def readBack (cfg : Config) (cnt sta : Bool) (ch : Channel) (now : Nat) : Channel :=
  { ch with
    ctMode := if cnt && !ch.ctPend then ch.rwMode else ch.ctMode
    ctHi := if cnt && !ch.ctPend then false else ch.ctHi
    counterLatch :=
      if cnt && !ch.ctPend then frozenCount ch.rwMode (liveCount cfg ch now) else ch.counterLatch
    ctPend := ch.ctPend || cnt
    statusLatch :=
      if sta && !ch.stPend then
        BitVec.ofNat 8 (statusNumber (levelOf cfg ch now) ch.rwMode ch.mode ch.bcd)
      else ch.statusLatch
    stPend := ch.stPend || sta }

/-- The fault an operation raises in a state, if any: the causes of 60 R221, R222 and R223. -/
def Raises (i : Instr) (s : State) (r : Fault) : Prop :=
  (r = .readCommandRegister ∧ i = .incmd) ∨
    (r = .unprogrammedAccess ∧
      ∃ c, (∃ b, i = .outd c b ∧ (s.ch c).wcursor = .unprog) ∨
        (i = .ind c ∧ (s.ch c).stPend = false ∧
          (((s.ch c).ctPend = true ∧ (s.ch c).ctMode = 0) ∨
            ((s.ch c).ctPend = false ∧ (s.ch c).rcursor = .unprog)))) ∨
    (r = .undefinedMode ∧
      ((i = .inaux ∧ levelUndefined s.ch2) ∨
        ∃ mask cnt spare c, i = .readback mask cnt true spare ∧ maskBit mask c = true ∧
          (s.ch c).stPend = false ∧ levelUndefined (s.ch c)))

/-- The interrupt calls among events: everything but the BCD report. -/
def interrupts (es : List Event) : List Event := es.filter (fun e => decide (e ≠ .bcdUnsupported))

/-- A wrap of channel 0 that a QUERY in state `s` sees (43 R200). -/
abbrev wrapSeen (s : State) : Prop :=
  s.ch0.running = true ∧ s.ch0.lastCount < liveCount s.cfg s.ch0 s.now

/-- A channel whose timestamps are `k` later. -/
def laterChannel (k : Nat) (ch : Channel) : Channel :=
  { ch with lastLoad := ch.lastLoad.map (· + k), lastIrq := ch.lastIrq.map (· + k) }

/-- A write of the byte `b` completes a load, and the reload value it loads is `n` (42 R169, 41 R140). -/
def completesLoad (ch : Channel) (b : Byte) (n : Nat) : Prop :=
  (ch.wcursor = .lo ∧ n = if b = 0 then 65536 else b.toNat) ∨
    (ch.wcursor = .hi ∧ n = if b = 0 then 65536 else 256 * b.toNat) ∨
    (ch.wcursor = .whi ∧ n = if b = 0 ∧ ch.interim = 0 then 65536 else 256 * b.toNat + ch.interim.toNat)

/-- The state with `last_count` of one channel replaced. -/
def withLastCount (c : Chan) (k : Nat) (s : State) : State := s.setCh c { s.ch c with lastCount := k }

/-- The operations that can address channel `c`: LATCH, MODESET, OUTD and IND of it, and READBACK. -/
def mayAddress (i : Instr) (c : Chan) : Prop :=
  (∃ g, i = .latch c g) ∨ (∃ a m b, i = .modeset c a m b) ∨ (∃ b, i = .outd c b) ∨ i = .ind c ∨
    ∃ mask cnt sta spare, i = .readback mask cnt sta spare

/-- A state on a clock that reads `k` more: every timestamp and every time input is `k` later. -/
def later (k : Nat) (s : State) : State :=
  { s with
    ch0 := laterChannel k s.ch0, ch1 := laterChannel k s.ch1, ch2 := laterChannel k s.ch2,
    tMax := s.tMax.map (· + k), now := s.now + k,
    requests := s.requests.map (fun r => { r with now := r.now + k }) }

/-- An outcome with its next state on a clock that reads `k` more. -/
def laterOutcome (k : Nat) (o : Host.Outcome State Fault Refusal) : Host.Outcome State Fault Refusal :=
  match o with
  | .next s => .next (later k s)
  | .fault r => .fault r
  | .refused r => .refused r

/-- The load fields are the same (the first column of the table of 42 R173). -/
def sameLoad (x y : Channel) : Prop :=
  y.count = x.count ∧ y.lastLoad = x.lastLoad ∧ y.lastIrq = x.lastIrq ∧ y.period = x.period ∧
    y.lastCount = x.lastCount ∧ y.running = x.running

/-- The configuration fields are the same. -/
def sameConfiguration (x y : Channel) : Prop := y.mode = x.mode ∧ y.bcd = x.bcd ∧ y.rwMode = x.rwMode

/-- The latch fields are the same. -/
def sameLatches (x y : Channel) : Prop :=
  y.stPend = x.stPend ∧ y.ctPend = x.ctPend ∧ y.ctMode = x.ctMode ∧ y.ctHi = x.ctHi ∧
    y.statusLatch = x.statusLatch ∧ y.counterLatch = x.counterLatch

end Sys2Proof.Claims

open Sys2Proof.Claims

/-! ## Encoding -/

/-- 30 R93 and R96: decoding what the encoder writes gives the operation back, for every operation, every operand
and every legal choice of the read-back parameters. The word layout is the spec's decision D21; that the ignored bits of
LATCH and READBACK are operands, and so come back too, is the model's choice (log 11). -/
def Obligations.DecodeInvertsEncode : Prop :=
  ∀ (cfg : Config) (i : Instr), i.wf cfg = true → decode cfg (encode cfg i) = .instr i

/-- 30 R93 and R96: a legal word is the encoding of the one operation it decodes to; no bit of it is dropped.
For bits 3:0 of a LATCH byte and the spare bit of a READBACK byte this is the model's choice (log 11, DESIGN CHOICE):
the spec ignores those bits (R94, 93 I16), and the model keeps them as operands. The word layout is decision D21. -/
def Obligations.EncodeInvertsDecode : Prop :=
  ∀ (cfg : Config) (t : TWord) (i : Instr), i.wf cfg = true → decode cfg t = .instr i → encode cfg i = t

/-- 30 R93, 95 section 2.1: a legal word fits the row of its operation and no other row of opcode_table.json; an
illegal word fits none. -/
def Obligations.LegalWordsFitExactlyOneRow : Prop :=
  ∀ (cfg : Config) (t : TWord),
    (∀ i, decode cfg t = .instr i →
      ∀ k, k < opcodeRows.length → ((opcodeRows.getD k ⟨0, 1⟩).fits t = true ↔ k = i.rowIndex)) ∧
    (∀ why, decode cfg t = .illegal why → ∀ r ∈ opcodeRows, r.fits t = false)

/-- 30 R81, R82, R94 (decision D17): exactly the words with `op` 5 to 7, or with a field that is not used and not
zero, are illegal. -/
def Obligations.IllegalWordsExactly : Prop :=
  ∀ (cfg : Config) (t : TWord),
    (∃ why, decode cfg t = .illegal why) ↔
      (5 ≤ t.toNat / 1024 ∨ (t.toNat / 1024 = 1 ∧ t.toNat % 256 ≠ 0) ∨
        (2 ≤ t.toNat / 1024 ∧ t.toNat / 1024 ≤ 4 ∧ t.toNat % 1024 ≠ 0))

/-- 95 section 2.2: words of the spec's table of decoding examples, one for each family. -/
def Obligations.SpecWordsDecode : Prop :=
  decodeTableWord 16 0x34F = some (.latch1 15) ∧ decodeTableWord 16 0x39C = some (.modesetLo2 6 false) ∧
    decodeTableWord 16 0x3A6 = some (.modesetHi2 3 false) ∧
    decodeTableWord 16 0x33D = some (.modesetWord0 6 true) ∧
    decodeTableWord 16 0x3FA = some (.readback 2 true true true) ∧
    decodeTableWord 16 0x0A9 = some (.outd0 0xA9) ∧ decodeTableWord 16 0x600 = some .ind2 ∧
    decodeTableWord 16 0x700 = some .incmd ∧ decodeTableWord 16 0x800 = some .inaux ∧
    decodeTableWord 16 0xC00 = some .query ∧ decodeTableWord 16 0x1000 = some .reset ∧
    decodeTableWord 16 0x1100 = none ∧
    decode { Config.defaults with rbActiveLow := true } 0x3C5 = .instr (.readback 5 true true false)

/-! ## Counter arithmetic -/

/-- 40 R114: a never-loaded channel reads 0; otherwise the live count lies in [0, count) and equals
`(n - t) mod n` for the elapsed ticks t, and nothing but `count` and `last_load` is read.
The elapsed ticks are written out as the floor of R112 and R113, the spec's decision D2 (log 14). -/
def Obligations.LiveCountObeysTheLaw : Prop :=
  ∀ (cfg : Config) (ch : Channel) (now : Nat),
    (ch.count = 0 → liveCount cfg ch now = 0) ∧
    (∀ l, ch.count ≠ 0 → ch.lastLoad = some l → l ≤ now →
      liveCount cfg ch now < ch.count ∧
        ((liveCount cfg ch now : Int) = ((ch.count : Int) - ((now - l) * cfg.oscHz / 1000000 : Nat)) % ch.count) ∧
        (ch.count ≤ 65536 → liveCount cfg ch now < 65536)) ∧
    (∀ x : Channel, x.count = ch.count → x.lastLoad = ch.lastLoad → liveCount cfg x now = liveCount cfg ch now)

/-- 40 R115 (derived there from R114): the live count is 0 at the load, repeats with the reload value, falls by
one a tick where it is not 0, and for n at least 2 rises exactly from a tick that is a multiple of n. For n = 1
it is always 0. -/
def Obligations.LiveCountRisesOncePerPeriod : Prop :=
  ∀ n t : Nat, 0 < n →
    countAfter n 0 = 0 ∧ countAfter n (t + n) = countAfter n t ∧ countAfter 1 t = 0 ∧
      (countAfter n t = 0 ↔ t % n = 0) ∧ (t % n ≠ 0 → countAfter n (t + 1) + 1 = countAfter n t) ∧
      (2 ≤ n → (countAfter n t < countAfter n (t + 1) ↔ t % n = 0))

/-- 43 R201 (derived there): between two observations less than a period apart, the live count is seen to rise
exactly when a tick congruent to 1 lies between them; for n = 1 never. -/
def Obligations.WrapSeenExactlyAtTickOne : Prop :=
  ∀ n t1 t2 : Nat, t1 < t2 →
    (2 ≤ n → t2 - t1 < n →
      (countAfter n t1 < countAfter n t2 ↔ ∃ k, t1 < k ∧ k ≤ t2 ∧ k % n = 1)) ∧
    ¬ countAfter 1 t1 < countAfter 1 t2

/-- 40 R111, R112 (decision D2): both conversions are floors of the exact quotients; converting to microseconds
and back never gains ticks; and above one million Hz the tick count is strictly increasing in time. -/
def Obligations.ConversionsAreFloors : Prop :=
  ∀ (cfg : Config) (n u : Nat), 0 < cfg.oscHz →
    ticksToMicros cfg n * cfg.oscHz ≤ n * 1000000 ∧ n * 1000000 < (ticksToMicros cfg n + 1) * cfg.oscHz ∧
      microsToTicks cfg u * 1000000 ≤ u * cfg.oscHz ∧ u * cfg.oscHz < (microsToTicks cfg u + 1) * 1000000 ∧
      microsToTicks cfg (ticksToMicros cfg n) ≤ n ∧
      (1000000 < cfg.oscHz → microsToTicks cfg u < microsToTicks cfg (u + 1))

/-- 40 R116, R120, R122: the phase lies in [0, count); in mode 2 the level of a loaded channel is low exactly at
phase 1, in modes 4 and 5 exactly at phase 0. The phase is written out with the floor of R112 and R113, the spec's
decision D2 (log 14). -/
def Obligations.PulseModesGoLowAtOnePhase : Prop :=
  ∀ (cfg : Config) (ch : Channel) (now l : Nat), ch.count ≠ 0 → ch.lastLoad = some l → l ≤ now →
    phase cfg ch now = (now - l) * cfg.oscHz / 1000000 % ch.count ∧ phase cfg ch now < ch.count ∧
      (ch.mode = 2 → outputLevel cfg ch now = .ok (decide (phase cfg ch now ≠ 1))) ∧
      (ch.mode = 4 ∨ ch.mode = 5 → outputLevel cfg ch now = .ok (decide (phase cfg ch now ≠ 0)))

/-- 40 R121: in mode 3 an odd count is low, then high from phase (n + 1)/2; an even count is high below phase
(n - 1)/2, then low. Over one period an odd count is high for (n - 1)/2 phases, an even one for n/2 - 1. -/
def Obligations.SquareWaveSplitsOddAndEven : Prop :=
  (∀ (cfg : Config) (ch : Channel) (now : Nat), ch.count ≠ 0 → ch.mode = 3 →
    outputLevel cfg ch now =
      .ok (if ch.count % 2 = 1 then decide ((ch.count + 1) / 2 ≤ phase cfg ch now)
        else decide (phase cfg ch now < (ch.count - 1) / 2))) ∧
  (∀ n : Nat, 0 < n →
    ((List.range n).filter (level3 n)).length = if n % 2 = 1 then (n - 1) / 2 else n / 2 - 1)

/-- 40 R118, R119 (the second derived there; 90_conflicts.md C1): a loaded channel is constantly 0 in mode 0 and
constantly 1 in mode 1. -/
def Obligations.OneShotLevelsAreConstant : Prop :=
  ∀ (cfg : Config) (ch : Channel) (now : Nat), ch.count ≠ 0 →
    (ch.mode = 0 → outputLevel cfg ch now = .ok false) ∧ (ch.mode = 1 → outputLevel cfg ch now = .ok true)

/-- 40 R117, R123 (decision D11): a never-loaded channel has level 0 in every mode; the level faults exactly on a
loaded channel in mode 6 or 7, and the only fault is UNDEFINED_MODE. -/
def Obligations.LevelFaultsExactlyInLoadedModes6And7 : Prop :=
  ∀ (cfg : Config) (ch : Channel) (now : Nat),
    (ch.count = 0 → outputLevel cfg ch now = .ok false) ∧
      (∀ r, outputLevel cfg ch now = .error r ↔ r = .undefinedMode ∧ levelUndefined ch)

/-- 40 R124 (derived there): the live count, the phase and the level depend on nothing of the channel but
`count`, `last_load` and `mode`. -/
def Obligations.CountingIgnoresGateBcdRunningAndLatches : Prop :=
  ∀ (cfg : Config) (x y : Channel) (now : Nat),
    y.count = x.count → y.lastLoad = x.lastLoad → y.mode = x.mode →
      liveCount cfg y now = liveCount cfg x now ∧ phase cfg y now = phase cfg x now ∧
        outputLevel cfg y now = outputLevel cfg x now

/-! ## Channel operations -/

/-- 41 R140: what a load writes, with 0 meaning 65536, the period of the new count and `last_count` 0; every
other field stays. The period is written out as the floor of R111, the spec's decision D2 (log 14). -/
def Obligations.LoadCountWritesTheLoadFields : Prop :=
  ∀ (cfg : Config) (ch : Channel) (v : Half) (now : Nat),
    loadCount cfg ch v now = loaded cfg ch v.toNat now

/-- 41 R144: a pending status latch is kept; otherwise the status byte is packed and the latch is pending, unless
the output level faults. That it faults on a loaded channel in mode 6 or 7 is the spec's decision D11 (log 14). -/
def Obligations.StatusLatchPacksTheStatusByte : Prop :=
  ∀ (cfg : Config) (ch : Channel) (now : Nat),
    (ch.stPend = true → latchStatus cfg ch now = .ok ch) ∧
      (ch.stPend = false → ¬ levelUndefined ch →
        ∃ lvl, outputLevel cfg ch now = .ok lvl ∧
          latchStatus cfg ch now =
            .ok { ch with
              statusLatch := BitVec.ofNat 8 (statusNumber lvl ch.rwMode ch.mode ch.bcd), stPend := true }) ∧
      (ch.stPend = false → levelUndefined ch → latchStatus cfg ch now = .error .undefinedMode)

/-! ## What each operation does -/

/-- 42 R161, 41 R142 (decision D5 for a channel never programmed): LATCH of channel c with no counter latch
pending freezes the live count in the channel's access pattern, and with one pending changes nothing; no other
register changes, nothing is returned or emitted. LATCH_0, LATCH_1, LATCH_2. -/
def Obligations.LatchFreezesTheLiveCount : Prop :=
  ∀ (c : Chan) (g : BitVec 4) (s : State),
    ((s.ch c).ctPend = true → exec (.latch c g) s = .next (quiet s)) ∧
      ((s.ch c).ctPend = false →
        exec (.latch c g) s =
          .next ((quiet s).setCh c
            { s.ch c with
              ctMode := (s.ch c).rwMode, ctHi := false, ctPend := true,
              counterLatch := frozenCount (s.ch c).rwMode (liveCount s.cfg (s.ch c) s.now) }))

/-- 42 R162 to R167 (decisions D11, D12, D13, D16): MODESET writes `rw_mode`, both cursors, `mode` and `bcd` of its
channel and nothing else; it emits BCD_UNSUPPORTED when the BCD bit is 1, then RAISE on channel 0 with M = 2. All
nine MODESET rows. -/
def Obligations.ModesetProgramsTheChannel : Prop :=
  ∀ (c : Chan) (a : Access) (m : BitVec 3) (b : Bool) (s : State),
    exec (.modeset c a m b) s =
      .next { (quiet s).setCh c
          { s.ch c with
            rwMode := (match a with | .lo => 1 | .hi => 2 | .word => 3)
            rcursor := (match a with | .lo => .lo | .hi => .hi | .word => .wlo)
            wcursor := (match a with | .lo => .lo | .hi => .hi | .word => .wlo)
            mode := m, bcd := b } with
        events := (if b then [.bcdUnsupported] else []) ++ (if c = .c0 ∧ m = 2 then [.raise] else []) }

/-- 42 R168 (decisions D8, D9, D10): READBACK that faults on no selected channel gives each selected channel the
latches requested that it has not pending, and leaves the other channels and every other register alone. -/
def Obligations.ReadbackLatchesTheSelectedChannels : Prop :=
  ∀ (mask : BitVec 3) (cnt sta spare : Bool) (s : State),
    (∀ c, maskBit mask c = true → sta = true → (s.ch c).stPend = false → ¬ levelUndefined (s.ch c)) →
      exec (.readback mask cnt sta spare) s =
        .next { quiet s with
          ch0 := if mask.getLsbD 0 then readBack s.cfg cnt sta s.ch0 s.now else s.ch0
          ch1 := if mask.getLsbD 1 then readBack s.cfg cnt sta s.ch1 s.now else s.ch1
          ch2 := if mask.getLsbD 2 then readBack s.cfg cnt sta s.ch2 s.now else s.ch2 }

/-- 42 R169, 41 R140 (decision D2 for the period, D5 for an unprogrammed channel, stated in `FaultsExactly`): OUTD in the low-only and
high-only patterns loads b and 256b; in the word pattern the first byte is held in `interim` and the second, b,
loads 256b + interim. A load value of 0 loads 65536. Nothing else changes. OUTD_0, OUTD_1, OUTD_2. -/
def Obligations.OutdStashesOrLoads : Prop :=
  ∀ (c : Chan) (b : Byte) (s : State),
    ((s.ch c).wcursor = .lo →
      exec (.outd c b) s = .next ((quiet s).setCh c (loaded s.cfg (s.ch c) b.toNat s.now))) ∧
    ((s.ch c).wcursor = .hi →
      exec (.outd c b) s = .next ((quiet s).setCh c (loaded s.cfg (s.ch c) (256 * b.toNat) s.now))) ∧
    ((s.ch c).wcursor = .wlo →
      exec (.outd c b) s = .next ((quiet s).setCh c { s.ch c with interim := b, wcursor := .whi })) ∧
    ((s.ch c).wcursor = .whi →
      exec (.outd c b) s =
        .next ((quiet s).setCh c
          { loaded s.cfg (s.ch c) (256 * b.toNat + (s.ch c).interim.toNat) s.now with wcursor := .wlo }))

/-- 42 R170: with a status latch pending, IND returns it and clears it, whatever else is pending; nothing else
changes. -/
def Obligations.IndReturnsTheStatusLatchFirst : Prop :=
  ∀ (c : Chan) (s : State), (s.ch c).stPend = true →
    exec (.ind c) s =
      .next { (quiet s).setCh c { s.ch c with stPend := false } with rdata := some (s.ch c).statusLatch }

/-- 42 R170 (decision D16 for `rcursor`, which stays): with no status latch but a counter latch pending, IND
returns the low byte of the latch: the whole of a single-byte latch, which it clears, or the first half of a word
latch, whose high byte comes next and clears it. -/
def Obligations.IndConsumesTheCounterLatch : Prop :=
  ∀ (c : Chan) (s : State), (s.ch c).stPend = false → (s.ch c).ctPend = true →
    ((s.ch c).ctMode = 1 ∨ (s.ch c).ctMode = 2 →
      exec (.ind c) s =
        .next { (quiet s).setCh c { s.ch c with ctPend := false } with
          rdata := some (BitVec.ofNat 8 ((s.ch c).counterLatch.toNat % 256)) }) ∧
    ((s.ch c).ctMode = 3 → (s.ch c).ctHi = false →
      exec (.ind c) s =
        .next { (quiet s).setCh c { s.ch c with ctHi := true } with
          rdata := some (BitVec.ofNat 8 ((s.ch c).counterLatch.toNat % 256)) }) ∧
    ((s.ch c).ctMode = 3 → (s.ch c).ctHi = true →
      exec (.ind c) s =
        .next { (quiet s).setCh c { s.ch c with ctHi := false, ctPend := false } with
          rdata := some (BitVec.ofNat 8 ((s.ch c).counterLatch.toNat / 256)) })

/-- 42 R170: with no latch pending, IND returns the byte of the live count that the read cursor names, and the
cursor moves in the word pattern only. -/
def Obligations.IndReadsTheLiveCount : Prop :=
  ∀ (c : Chan) (s : State), (s.ch c).stPend = false → (s.ch c).ctPend = false →
    ((s.ch c).rcursor = .lo →
      exec (.ind c) s =
        .next { quiet s with rdata := some (BitVec.ofNat 8 (liveCount s.cfg (s.ch c) s.now % 256)) }) ∧
    ((s.ch c).rcursor = .hi →
      exec (.ind c) s =
        .next { quiet s with rdata := some (BitVec.ofNat 8 (liveCount s.cfg (s.ch c) s.now / 256 % 256)) }) ∧
    ((s.ch c).rcursor = .wlo →
      exec (.ind c) s =
        .next { (quiet s).setCh c { s.ch c with rcursor := .whi } with
          rdata := some (BitVec.ofNat 8 (liveCount s.cfg (s.ch c) s.now % 256)) }) ∧
    ((s.ch c).rcursor = .whi →
      exec (.ind c) s =
        .next { (quiet s).setCh c { s.ch c with rcursor := .wlo } with
          rdata := some (BitVec.ofNat 8 (liveCount s.cfg (s.ch c) s.now / 256 % 256)) })

/-- 42 R171, 60 R223, R227 (decisions D6, D22): INCMD enters the Faulted state with READ_COMMAND_REGISTER, and
changes nothing else. That entry is the whole effect of INCMD. -/
def Obligations.IncmdEntersTheFaultedState : Prop :=
  ∀ s : State, exec .incmd s = .next (faultedFrom s .readCommandRegister)

/-- 42 R172 (decision D14): unless channel 2 is loaded in mode 6 or 7, INAUX toggles `aux_ff` and returns channel
2's level in bit 5 and the new `aux_ff` in bit 4, the other bits 0; nothing else changes. -/
def Obligations.InauxTogglesAndReports : Prop :=
  ∀ s : State, ¬ levelUndefined s.ch2 →
    ∃ lvl, outputLevel s.cfg s.ch2 s.now = .ok lvl ∧
      exec .inaux s =
        .next { quiet s with
          auxFf := !s.auxFf, rdata := some (BitVec.ofNat 8 (32 * lvl.toNat + 16 * (!s.auxFf).toNat)) }

/-- 43 R200 (decisions D2 and D15 for the budget, D11 for modes 6 and 7): the four endings of QUERY. Only `last_count` or `running` of channel 0
and the outputs change. -/
def Obligations.QueryDetectsTheWrap : Prop :=
  ∀ s : State,
    (s.ch0.running = false → exec .query s = .next { quiet s with qresult := some .noEvent }) ∧
    (wrapSeen s → s.ch0.mode = 2 ∨ s.ch0.mode = 3 →
      exec .query s =
        .next { quiet s with
          ch0 := { s.ch0 with lastCount := liveCount s.cfg s.ch0 s.now }
          qresult := some (.budget (liveCount s.cfg s.ch0 s.now * 1000000 / s.cfg.oscHz))
          events := [.lower, .raise] }) ∧
    (wrapSeen s → s.ch0.mode ≠ 2 → s.ch0.mode ≠ 3 →
      exec .query s =
        .next { quiet s with
          ch0 := { s.ch0 with running := false }, qresult := some .noEvent, events := [.lower, .raise] }) ∧
    (s.ch0.running = true → ¬ wrapSeen s →
      exec .query s =
        .next { quiet s with
          ch0 := { s.ch0 with lastCount := liveCount s.cfg s.ch0 s.now }
          qresult := some (.budget (liveCount s.cfg s.ch0 s.now * 1000000 / s.cfg.oscHz)) })

/-- 70 R250, R252, 41 R146 (decisions D4, D5, D18): RESET puts every channel and `aux_ff` at their power-on values
from any state, keeps `faulted` and `t_max`, and returns and emits nothing. -/
def Obligations.ResetRestoresThePowerOnChannels : Prop :=
  ∀ s : State,
    exec .reset s =
      .next { quiet s with
        ch0 := State.reset.ch0, ch1 := State.reset.ch1, ch2 := State.reset.ch2, auxFf := false }

/-- 10 R49, 70 R252: the power-on values of every channel field and of the device-global fields. The values the
source does not state are the spec's decisions D4 and D5; the output signals' values are the model's (log 5). -/
def Obligations.PowerOnValues : Prop :=
  (∀ c, (State.reset.ch c) =
    { count := 0, mode := 0, bcd := false, gate := decide (c ≠ .c2), rwMode := 0, rcursor := .unprog,
      wcursor := .unprog, interim := 0, lastLoad := none, lastIrq := none, period := 0, lastCount := 0,
      stPend := false, ctPend := false, ctMode := 0, ctHi := false, statusLatch := 0, counterLatch := 0,
      running := false }) ∧
    State.reset.auxFf = false ∧ State.reset.faulted = none ∧ State.reset.tMax = none ∧
    State.reset.cfg = { oscHz := 1193182, rbCountBit := 5, rbStatusBit := 4, rbActiveLow := false } ∧
    State.reset.rdata = none ∧ State.reset.qresult = none ∧ State.reset.events = []

/-- 70 R251 (derived there): after RESET a QUERY returns NO_EVENT, an IND or OUTD on any channel faults, INAUX
returns 0x10, and a READBACK of status latches 0x00. -/
def Obligations.AfterResetNothingIsProgrammed : Prop :=
  ∀ s t : State, exec .reset s = .next t →
    exec .query t = .next { t with qresult := some .noEvent } ∧
      (∀ c, exec (.ind c) t = .next (faultedFrom t .unprogrammedAccess)) ∧
      (∀ c b, exec (.outd c b) t = .next (faultedFrom t .unprogrammedAccess)) ∧
      exec .inaux t = .next { t with auxFf := true, rdata := some 0x10 } ∧
      (∀ spare, exec (.readback 7 false true spare) t =
        .next { t with
          ch0 := { t.ch0 with stPend := true, statusLatch := 0 }
          ch1 := { t.ch1 with stPend := true, statusLatch := 0 }
          ch2 := { t.ch2 with stPend := true, statusLatch := 0 } })

/-! ## The step -/

/-- 60 R226, 00 R15: when the oldest operation decodes and its time, if it has one, is not below `t_max`, a step
of a block that is not Faulted is the operation's meaning, with the operation taken off the interface and, unless
it is RESET, its time in `now` and `t_max`. The queue of operations is the model's interface (log 2). -/
def Obligations.StepRunsTheDecodedOperation : Prop :=
  ∀ (s : State) (w : Nat) (now : Nat) (rest : List Request) (i : Instr),
    s.faulted = none → s.requests = ⟨w, now⟩ :: rest → w < 8192 →
    decode s.cfg (BitVec.ofNat 13 w) = .instr i →
      (i = .reset → step s = exec .reset { s with requests := rest }) ∧
      (i ≠ .reset → (∀ m, s.tMax = some m → m ≤ now) →
        step s = exec i { s with requests := rest, now := now, tMax := some now })

/-- 60 R226 (decisions D1, D17, D22): a step is refused exactly as admission says and in its order: FAULTED, then
ILLEGAL_TRANSACTION, then TIME_REGRESSION. None is refused for another reason, and the Faulted state has
no step. That no step answers a host fault is the model's choice (log 4, DEDUCED: the Fault outcome of 00 R16 is taken
as the next state of 60 R227), and so is refusing a number of more than 13 bits as illegal (log 10). -/
def Obligations.StepRefusesExactlyAsAdmissionSays : Prop :=
  ∀ s : State,
    (∀ r, step s ≠ .fault r) ∧
    (∀ r, step s = .refused r ↔
      (r = .faulted ∧ s.faulted ≠ none) ∨
      (s.faulted = none ∧ ∃ w now rest, s.requests = ⟨w, now⟩ :: rest ∧
        ((r = .illegalTransaction ∧
            (8192 ≤ w ∨ ∃ why, decode s.cfg (BitVec.ofNat 13 w) = .illegal why)) ∨
          (r = .timeRegression ∧ w < 8192 ∧ ∃ i m, decode s.cfg (BitVec.ofNat 13 w) = .instr i ∧
            i ≠ .reset ∧ s.tMax = some m ∧ now < m))))

/-- 60 R239 ("Between operations it holds its state"): with no operation waiting, a step of a block that is not
Faulted changes nothing. That the model then has a step at all is its own choice (log 3). -/
def Obligations.IdleStepHoldsTheState : Prop :=
  ∀ s : State, s.faulted = none → s.requests = [] → step s = .next s

/-- The host's placement of a table word: the next step runs exactly that word's operation (log 12, the model's
own interface). -/
def Obligations.PlacedWordIsTheNextOperation : Prop :=
  ∀ (s : State) (nbits w : Nat) (i : Instr), s.faulted = none →
    decodeWord s.cfg (w % 2 ^ nbits) = .instr i →
      step (s.withFetchWord nbits w) =
        exec i (if i = .reset then s else { s with now := s.tMax.getD 0, tMax := some (s.tMax.getD 0) })

/-- 10 R43 to R46 (derived there): the invariant holds at power-on. -/
def Obligations.PowerOnSatisfiesTheInvariant : Prop := State.reset.Inv

/-- 10 R43 to R46, R28, 40 R110 (derived there): every step keeps the invariant: counts in [0, 65536], `count` 0
exactly when never loaded, `last_count` below `count`, `running` only when loaded, `period` that of the count,
single-byte latches below 256, `ct_hi` only within a pending word latch, bit 6 of a status byte 0, cursors of the
access pattern, the gate at its reset value (decision D19), and no load later than `t_max`. The period is the floor
of decision D2. -/
def Obligations.EveryStepKeepsTheInvariant : Prop :=
  ∀ s t : State, s.Inv → step s = .next t → t.Inv

/-- 40 R125 (derived there): a clock that reads `k` more changes no returned byte, query result, event, fault or
refusal: the step of the later state is the later step. -/
def Obligations.OnlyTimeDifferencesAreObservable : Prop :=
  ∀ (k : Nat) (s : State), s.Inv → step (later k s) = laterOutcome k (step s)

/-- 10 R42, 40 R110 (decision D1): no step lowers `t_max`; a step that takes an operation with a time input sets `t_max` to that
time, and taking a RESET leaves it. That the operation taken leaves the queue, and nothing else of it, is about the
model's own interface (log 2, DESIGN CHOICE). -/
def Obligations.TimeNeverRegresses : Prop :=
  ∀ s t : State, step s = .next t →
    (∀ m, s.tMax = some m → ∃ m', t.tMax = some m' ∧ m ≤ m') ∧
    (∀ w now rest, s.requests = ⟨w, now⟩ :: rest →
      t.requests = rest ∧
      (decodeWord s.cfg w = .instr .reset → t.tMax = s.tMax) ∧
      (decodeWord s.cfg w ≠ .instr .reset → t.tMax = some now))

/-! ## The whole machine -/

/-- 60 R221, R222, R223, R225, R227 (decisions D5, D6, D11, D22): an operation faults exactly in the cases listed
there, with that reason, and the Faulted state is the state it started from with `faulted` set: the operation's
writes and events are dropped and nothing is returned. In every other case `faulted` is unchanged. -/
def Obligations.FaultsExactly : Prop :=
  ∀ (i : Instr) (s : State),
    (∀ r, Raises i s r → exec i s = .next (faultedFrom s r)) ∧
    ((∀ r, ¬ Raises i s r) → ∃ t, exec i s = .next t ∧ t.faulted = s.faulted)

/-- 60 R230: the interrupt calls an operation makes. A QUERY that sees a wrap of a running channel 0 makes LOWER
then RAISE, a MODESET of channel 0 with M = 2 makes RAISE, and nothing else makes any.
That the quirk is RAISE alone, without a LOWER, is the spec's reading, decision D12 (log 14). -/
def Obligations.InterruptsHaveTwoSources : Prop :=
  ∀ (i : Instr) (s t : State), exec i s = .next t →
    (i = .query → wrapSeen s → interrupts t.events = [.lower, .raise]) ∧
    ((∃ a b, i = .modeset .c0 a 2 b) → interrupts t.events = [.raise]) ∧
    (¬ (i = .query ∧ wrapSeen s) → ¬ (∃ a b, i = .modeset .c0 a 2 b) → interrupts t.events = [])

/-- 42 R167, 60 R224 (decision D13): BCD_UNSUPPORTED is emitted, once, by a MODESET whose BCD bit is 1 and by
nothing else. -/
def Obligations.BcdIsReportedByModesetOnly : Prop :=
  ∀ (i : Instr) (s t : State), exec i s = .next t →
    ((∃ c a m, i = .modeset c a m true) → t.events.count .bcdUnsupported = 1) ∧
    (¬ (∃ c a m, i = .modeset c a m true) → t.events.count .bcdUnsupported = 0)

/-- 10 R47 (derived there): while a latch is pending, no operation but RESET writes what it holds. -/
def Obligations.PendingLatchesAreImmutable : Prop :=
  ∀ (i : Instr) (s t : State) (c : Chan), exec i s = .next t → i ≠ .reset →
    ((s.ch c).stPend = true → (t.ch c).statusLatch = (s.ch c).statusLatch) ∧
    ((s.ch c).ctPend = true →
      (t.ch c).counterLatch = (s.ch c).counterLatch ∧ (t.ch c).ctMode = (s.ch c).ctMode)

/-- 42 R173 (derived there), with QUERY and RESET (43 R200, 70 R250): which operations may write which fields of a
channel. Each clause names every writer of its fields. -/
def Obligations.EachFieldHasItsWriters : Prop :=
  ∀ (i : Instr) (s t : State) (c : Chan), exec i s = .next t → i ≠ .reset →
    ((∀ b, i ≠ .outd c b) → ¬ (i = .query ∧ c = .c0) → sameLoad (s.ch c) (t.ch c)) ∧
    ((∀ b, i ≠ .outd c b) → (t.ch c).count = (s.ch c).count ∧ (t.ch c).lastLoad = (s.ch c).lastLoad ∧
      (t.ch c).lastIrq = (s.ch c).lastIrq ∧ (t.ch c).period = (s.ch c).period) ∧
    ((∀ a m b, i ≠ .modeset c a m b) → sameConfiguration (s.ch c) (t.ch c)) ∧
    ((∀ a m b, i ≠ .modeset c a m b) → i ≠ .ind c → (t.ch c).rcursor = (s.ch c).rcursor) ∧
    ((∀ a m b, i ≠ .modeset c a m b) → (∀ b, i ≠ .outd c b) → (t.ch c).wcursor = (s.ch c).wcursor) ∧
    ((∀ b, i ≠ .outd c b) → (t.ch c).interim = (s.ch c).interim) ∧
    ((∀ g, i ≠ .latch c g) → i ≠ .ind c →
      (∀ mask cnt sta spare, i = .readback mask cnt sta spare → maskBit mask c = false) →
      sameLatches (s.ch c) (t.ch c)) ∧
    (i ≠ .inaux → t.auxFf = s.auxFf) ∧
    (t.ch c).gate = (s.ch c).gate

/-- 10 R24: an operation addressed to one channel leaves the other channels as they are: LATCH, MODESET, OUTD and
IND write no channel but their own, QUERY none but channel 0, INAUX and INCMD none, READBACK none it does not
select. -/
def Obligations.ChannelsDoNotDisturbEachOther : Prop :=
  ∀ (i : Instr) (s t : State) (c : Chan), exec i s = .next t → i ≠ .reset →
    (∀ g, i ≠ .latch c g) → (∀ a m b, i ≠ .modeset c a m b) → (∀ b, i ≠ .outd c b) → i ≠ .ind c →
    ¬ (i = .query ∧ c = .c0) →
    (∀ mask cnt sta spare, i = .readback mask cnt sta spare → maskBit mask c = false) →
      t.ch c = s.ch c

/-- 10 R24, 43 R204, 42 R172: what QUERY returns and emits depends on channel 0 alone, and what INAUX returns on
channel 2 and `aux_ff` alone (with the parameters and the time). Whether INAUX faults depends on them alone too, so
`faulted` after it depends on nothing else but `faulted` before. -/
def Obligations.Channel0FeedsQueryAndChannel2FeedsInaux : Prop :=
  ∀ s s' t t' : State, s'.cfg = s.cfg → s'.now = s.now →
    (s'.ch0 = s.ch0 → exec .query s = .next t → exec .query s' = .next t' →
      t'.qresult = t.qresult ∧ t'.events = t.events ∧ t'.ch0 = t.ch0) ∧
    (s'.ch2 = s.ch2 → s'.auxFf = s.auxFf → exec .inaux s = .next t → exec .inaux s' = .next t' →
      t'.rdata = t.rdata ∧ t'.auxFf = t.auxFf ∧ (s'.faulted = s.faulted → t'.faulted = t.faulted))

/-- No operation writes the parameters (00 R9, R11), the operations still waiting, its own time input, or `t_max` (10
R42); admission alone sets the last two. That the parameters, the waiting operations and the time input are fields of
State which no operation writes is the model's choice (logs 1, 2 and 7, DESIGN CHOICE). -/
def Obligations.OperationsKeepParametersAndInterface : Prop :=
  ∀ (i : Instr) (s t : State), exec i s = .next t →
    t.cfg = s.cfg ∧ t.requests = s.requests ∧ t.now = s.now ∧ t.tMax = s.tMax

/-- 43 R203 (derived there): a stopped channel 0 stays stopped, and every QUERY reports NO_EVENT with no event and
no change, through every operation but an OUTD to channel 0. -/
def Obligations.StoppedChannelStaysStoppedUntilReloaded : Prop :=
  ∀ (i : Instr) (s t : State), exec i s = .next t → s.ch0.running = false → (∀ b, i ≠ .outd .c0 b) →
    t.ch0.running = false ∧ exec .query t = .next { quiet t with qresult := some .noEvent }

/-! ## Sequences of operations -/

/-- 42 R169, 20 R62: in the word pattern, OUTD of a low byte and then of a high byte, at any two times, loads
`(H << 8) | L` at the second, with 0 meaning 65536; the first loads nothing. -/
def Obligations.WordWriteLoadsLowThenHigh : Prop :=
  ∀ (c : Chan) (lo hi : Byte) (s t u : State) (later : Nat), (s.ch c).wcursor = .wlo →
    exec (.outd c lo) s = .next t → exec (.outd c hi) { t with now := later } = .next u →
      (t.ch c).count = (s.ch c).count ∧
      (u.ch c).count = (if lo = 0 ∧ hi = 0 then 65536 else 256 * hi.toNat + lo.toNat) ∧
      (u.ch c).lastLoad = some later ∧ (u.ch c).wcursor = .wlo ∧ (u.ch c).running = true

/-- 42 R161, R170, 41 R143 (derived there): after a LATCH in the word pattern with nothing pending, two INDs return
the low and the high byte of the live count at the LATCH, whatever the times of the INDs and even with a second
LATCH between; then no counter latch is pending. -/
def Obligations.LatchedWordReadsTheFrozenCount : Prop :=
  ∀ (c : Chan) (g g' : BitVec 4) (s t u v w : State) (n1 n2 n3 : Nat),
    (s.ch c).rwMode = 3 → (s.ch c).ctPend = false → (s.ch c).stPend = false → (s.ch c).count ≤ 65536 →
    exec (.latch c g) s = .next t → exec (.ind c) { t with now := n1 } = .next u →
    exec (.latch c g') { u with now := n2 } = .next v → exec (.ind c) { v with now := n3 } = .next w →
      ∃ lo hi : Byte, u.rdata = some lo ∧ w.rdata = some hi ∧
        256 * hi.toNat + lo.toNat = liveCount s.cfg (s.ch c) s.now ∧ (w.ch c).ctPend = false

/-- 70 R256 (derived there): a MODESET.WORD between the two bytes of a word write abandons the first: the next two
bytes are the low and the high byte of the count. -/
def Obligations.ModesetAbandonsAHalfWrittenWord : Prop :=
  ∀ (c : Chan) (m : BitVec 3) (b : Bool) (stale lo hi : Byte) (s t u v w : State) (n1 n2 n3 : Nat),
    (s.ch c).wcursor = .wlo →
    exec (.outd c stale) s = .next t → exec (.modeset c .word m b) { t with now := n1 } = .next u →
    exec (.outd c lo) { u with now := n2 } = .next v → exec (.outd c hi) { v with now := n3 } = .next w →
      (v.ch c).count = (s.ch c).count ∧
      (w.ch c).count = (if lo = 0 ∧ hi = 0 then 65536 else 256 * hi.toNat + lo.toNat)

/-- 43 R202 (derived there): after a load of channel 0, in every pattern, the first QUERY sees a wrap exactly when the
elapsed ticks (the floor of decision D2) are not a multiple of the count, even before a period has passed; in a
one-shot mode (decision D11 for modes 6 and 7) the channel stops there. A load is the OUTD of the low-only or high-only
pattern, or the second of a word. -/
def Obligations.FirstQueryAfterALoadReportsAWrap : Prop :=
  ∀ (b : Byte) (n : Nat) (s t u : State) (later : Nat), completesLoad s.ch0 b n → s.now ≤ later →
    exec (.outd0 b) s = .next t → exec .query { t with now := later } = .next u →
      t.ch0.count = n ∧
      (interrupts u.events = [.lower, .raise] ↔ (later - s.now) * s.cfg.oscHz / 1000000 % n ≠ 0) ∧
      (interrupts u.events = [.lower, .raise] → s.ch0.mode ≠ 2 → s.ch0.mode ≠ 3 → u.ch0.running = false) ∧
      (interrupts u.events = [.lower, .raise] → s.ch0.mode = 2 ∨ s.ch0.mode = 3 → u.ch0.running = true) ∧
      (interrupts u.events = [] → u.ch0.running = true)

/-! ## The edge detector and the BCD report -/

/-- 43 R204: only channel 0 has an edge detector. For channel 1 or 2: a QUERY neither reads nor writes any of it; no
operation that can address it makes an interrupt call; a load sets `running`, and no operation but RESET clears it;
`last_count` is written by its loads and by RESET alone, and no operation reads it, so replacing it changes nothing
else. -/
def Obligations.OnlyChannel0HasAnEdgeDetector : Prop :=
  ∀ (c : Chan) (i : Instr) (s t : State), c ≠ .c0 → exec i s = .next t →
    (∀ x, i = .query → exec .query (s.setCh c x) = .next (t.setCh c x)) ∧
    (mayAddress i c → interrupts t.events = []) ∧
    (∀ b n, i = .outd c b → completesLoad (s.ch c) b n → (t.ch c).running = true) ∧
    (i ≠ .reset → (s.ch c).running = true → (t.ch c).running = true) ∧
    (i = .reset → (t.ch c).running = false) ∧
    (i ≠ .reset → (∀ b n, i = .outd c b → ¬ completesLoad (s.ch c) b n) → (t.ch c).lastCount = (s.ch c).lastCount) ∧
    (∀ k, ∃ k', exec i (withLastCount c k s) = .next (withLastCount c k' t))

/-- 60 R224: BCD_UNSUPPORTED is an event, not a fault: the operation that emits it completes normally, and every
channel goes on counting in binary, its live count at every later reading what it was without the operation. -/
def Obligations.BcdReportIsNotAFault : Prop :=
  ∀ (i : Instr) (s t : State), exec i s = .next t → .bcdUnsupported ∈ t.events →
    t.faulted = s.faulted ∧
      ∀ c later, liveCount t.cfg (t.ch c) later = liveCount s.cfg (s.ch c) later
end

