-- ==== Sys2Proof/Laws/Counter.lean ====
section
/-! SUPPORT. Counter arithmetic: one law per function of 40_counter_arithmetic.md. -/

namespace Sys2Proof.Machine

theorem microsToTicks_zero (cfg : Config) : microsToTicks cfg 0 = 0 := by simp [microsToTicks]

theorem elapsedTicks_loaded (cfg : Config) (ch : Channel) {l now : Nat} (h : ch.lastLoad = some l)
    (hl : l ≤ now) : elapsedTicks cfg ch now = microsToTicks cfg (now - l) := by
  simp [elapsedTicks, h, hl]

/-- `elapsedTicks` reads `last_load` and nothing else of the channel. -/
theorem elapsedTicks_congr (cfg : Config) {x y : Channel} (now : Nat) (h : y.lastLoad = x.lastLoad) :
    elapsedTicks cfg y now = elapsedTicks cfg x now := by
  simp [elapsedTicks, h]

theorem countAfter_lt {n : Nat} (h : 0 < n) (t : Nat) : countAfter n t < n := by
  have hn : (0 : Int) < n := by exact_mod_cast h
  have h0 := Int.emod_nonneg ((n : Int) - t) (by omega : (n : Int) ≠ 0)
  have h1 := Int.emod_lt_of_pos ((n : Int) - t) hn
  unfold countAfter
  omega

/-- The live count read off the phase: 0 at phase 0, else `n` less the phase. -/
theorem countAfter_eq_phase {n : Nat} (h : 0 < n) (t : Nat) :
    countAfter n t = if t % n = 0 then 0 else n - t % n := by
  have hlt : t % n < n := Nat.mod_lt _ h
  have key : ((n : Int) - t) = ((n : Int) - ((t % n : Nat) : Int)) + n * (-((t / n : Nat) : Int)) := by
    have := Nat.div_add_mod t n
    zify at this
    push_cast
    linarith
  unfold countAfter
  rw [key, Int.add_mul_emod_self_left]
  generalize t % n = m at hlt
  split
  · next h0 => simp [h0]
  · next h0 =>
    have a : (0 : Int) ≤ (n : Int) - (m : Int) := by omega
    have b : (n : Int) - (m : Int) < n := by omega
    rw [Int.emod_eq_of_lt a b]
    omega

theorem countAfter_zero (n : Nat) : countAfter n 0 = 0 := by simp [countAfter]

theorem liveCount_unloaded (cfg : Config) (ch : Channel) (now : Nat) (h : ch.count = 0) :
    liveCount cfg ch now = 0 := by
  simp [liveCount, h]

theorem liveCount_lt (cfg : Config) (ch : Channel) (now : Nat) (h : ch.count ≠ 0) :
    liveCount cfg ch now < ch.count := by
  simp only [liveCount, h, if_false]
  exact countAfter_lt (Nat.pos_of_ne_zero h) _

/-- `liveCount` reads `count` and `last_load` and nothing else of the channel (R114). -/
theorem liveCount_congr (cfg : Config) {x y : Channel} (now : Nat) (h : y.count = x.count)
    (hl : y.lastLoad = x.lastLoad) : liveCount cfg y now = liveCount cfg x now := by
  simp only [liveCount, h, elapsedTicks_congr cfg now hl]

theorem phase_lt (cfg : Config) (ch : Channel) (now : Nat) (h : ch.count ≠ 0) :
    phase cfg ch now < ch.count :=
  Nat.mod_lt _ (Nat.pos_of_ne_zero h)

theorem phase_congr (cfg : Config) {x y : Channel} (now : Nat) (h : y.count = x.count)
    (hl : y.lastLoad = x.lastLoad) : phase cfg y now = phase cfg x now := by
  simp only [phase, h, elapsedTicks_congr cfg now hl]

/-- `outputLevel` reads `count`, `last_load` and `mode` and nothing else of the channel (R124). -/
theorem outputLevel_congr (cfg : Config) {x y : Channel} (now : Nat) (h : y.count = x.count)
    (hl : y.lastLoad = x.lastLoad) (hm : y.mode = x.mode) : outputLevel cfg y now = outputLevel cfg x now := by
  simp only [outputLevel, h, hm, phase_congr cfg now h hl]

/-- Everything `outputLevel` can answer: a level, unless the channel is loaded in mode 6 or 7 (R117, R123). -/
theorem outputLevel_cases (cfg : Config) (ch : Channel) (now : Nat) :
    (¬ (ch.count ≠ 0 ∧ 6 ≤ ch.mode.toNat) ∧ ∃ l, outputLevel cfg ch now = .ok l) ∨
      ((ch.count ≠ 0 ∧ 6 ≤ ch.mode.toNat) ∧ outputLevel cfg ch now = .error .undefinedMode) := by
  by_cases h : ch.count = 0
  · exact .inl ⟨fun k => k.1 h, false, by simp [outputLevel, h]⟩
  · have hm := ch.mode.isLt
    simp only [outputLevel, h, if_false]
    generalize ch.mode.toNat = m at hm
    interval_cases m <;> simp [h]

end Sys2Proof.Machine
end

