-- ==== Sys2Proof/Laws/PerInstr.lean ====
section
/-! SUPPORT. One lemma per operation: the encoder's word has the fixed bits of the operation's row of
opcode_table.json (family RowFit). -/

namespace Sys2Proof.Laws.RowFit

/-- The word the encoder writes fits the operation's own row, whatever the parameters. -/
def Statement (i : Instr) : Prop := ∀ cfg : Config, i.wf cfg = true → i.row.fits (encode cfg i) = true

theorem flagBit_cases {k : Nat} (h : Config.flagBitOk k = true) : k = 3 ∨ k = 4 ∨ k = 5 := by
  simp only [Config.flagBitOk, Bool.and_eq_true, decide_eq_true_eq] at h
  omega

theorem latch0 (g : BitVec 4) : Statement (.latch0 g) :=
  fun _ _ => (by decide : ∀ g : BitVec 4, (Instr.latch0 g).row.fits (encode Config.defaults (.latch0 g)) = true) g

theorem latch1 (g : BitVec 4) : Statement (.latch1 g) :=
  fun _ _ => (by decide : ∀ g : BitVec 4, (Instr.latch1 g).row.fits (encode Config.defaults (.latch1 g)) = true) g

theorem latch2 (g : BitVec 4) : Statement (.latch2 g) :=
  fun _ _ => (by decide : ∀ g : BitVec 4, (Instr.latch2 g).row.fits (encode Config.defaults (.latch2 g)) = true) g

theorem modesetLo0 (m : BitVec 3) (b : Bool) : Statement (.modesetLo0 m b) :=
  fun _ _ =>
    (by decide : ∀ (m : BitVec 3) (b : Bool), (Instr.modesetLo0 m b).row.fits (encode Config.defaults (.modesetLo0 m b)) = true) m b

theorem modesetLo1 (m : BitVec 3) (b : Bool) : Statement (.modesetLo1 m b) :=
  fun _ _ =>
    (by decide : ∀ (m : BitVec 3) (b : Bool), (Instr.modesetLo1 m b).row.fits (encode Config.defaults (.modesetLo1 m b)) = true) m b

theorem modesetLo2 (m : BitVec 3) (b : Bool) : Statement (.modesetLo2 m b) :=
  fun _ _ =>
    (by decide : ∀ (m : BitVec 3) (b : Bool), (Instr.modesetLo2 m b).row.fits (encode Config.defaults (.modesetLo2 m b)) = true) m b

theorem modesetHi0 (m : BitVec 3) (b : Bool) : Statement (.modesetHi0 m b) :=
  fun _ _ =>
    (by decide : ∀ (m : BitVec 3) (b : Bool), (Instr.modesetHi0 m b).row.fits (encode Config.defaults (.modesetHi0 m b)) = true) m b

theorem modesetHi1 (m : BitVec 3) (b : Bool) : Statement (.modesetHi1 m b) :=
  fun _ _ =>
    (by decide : ∀ (m : BitVec 3) (b : Bool), (Instr.modesetHi1 m b).row.fits (encode Config.defaults (.modesetHi1 m b)) = true) m b

theorem modesetHi2 (m : BitVec 3) (b : Bool) : Statement (.modesetHi2 m b) :=
  fun _ _ =>
    (by decide : ∀ (m : BitVec 3) (b : Bool), (Instr.modesetHi2 m b).row.fits (encode Config.defaults (.modesetHi2 m b)) = true) m b

theorem modesetWord0 (m : BitVec 3) (b : Bool) : Statement (.modesetWord0 m b) :=
  fun _ _ =>
    (by decide : ∀ (m : BitVec 3) (b : Bool), (Instr.modesetWord0 m b).row.fits (encode Config.defaults (.modesetWord0 m b)) = true) m b

theorem modesetWord1 (m : BitVec 3) (b : Bool) : Statement (.modesetWord1 m b) :=
  fun _ _ =>
    (by decide : ∀ (m : BitVec 3) (b : Bool), (Instr.modesetWord1 m b).row.fits (encode Config.defaults (.modesetWord1 m b)) = true) m b

theorem modesetWord2 (m : BitVec 3) (b : Bool) : Statement (.modesetWord2 m b) :=
  fun _ _ =>
    (by decide : ∀ (m : BitVec 3) (b : Bool), (Instr.modesetWord2 m b).row.fits (encode Config.defaults (.modesetWord2 m b)) = true) m b

theorem readback_bits (mask : BitVec 3) (x y z : Bool) (p q r : Nat) (hp : p = 3 ∨ p = 4 ∨ p = 5)
    (hq : q = 3 ∨ q = 4 ∨ q = 5) (hr : r = 3 ∨ r = 4 ∨ r = 5) :
    (⟨0x1FC0, 0x03C0⟩ : Row).fits (0x3C0 ||| mask.setWidth 13 ||| bitAt x p ||| bitAt y q ||| bitAt z r) = true := by
  rcases hp with rfl | rfl | rfl <;> rcases hq with rfl | rfl | rfl <;> rcases hr with rfl | rfl | rfl <;>
    revert mask x y z <;> decide

theorem readback (mask : BitVec 3) (cnt sta spare : Bool) : Statement (.readback mask cnt sta spare) := by
  intro cfg h
  simp only [Instr.wf, Bool.and_eq_true, decide_eq_true_eq] at h
  have hc := flagBit_cases h.1.1
  have hs := flagBit_cases h.1.2
  exact readback_bits mask _ _ _ _ _ _ hc hs (by unfold spareBit; omega)

theorem outd0 (b : Byte) : Statement (.outd0 b) := by
  intro cfg _
  simp only [Instr.row, Instr.rowIndex, Row.fits, encode, selBits, beq_iff_eq, opcodeRows]
  apply BitVec.eq_of_getLsbD_eq
  intro i hi
  simp only [List.cons_append, List.nil_append, List.getD_cons_succ, List.getD_cons_zero, BitVec.getLsbD_and,
    BitVec.getLsbD_or, BitVec.getLsbD_setWidth]
  interval_cases i <;> simp

theorem outd1 (b : Byte) : Statement (.outd1 b) := by
  intro cfg _
  simp only [Instr.row, Instr.rowIndex, Row.fits, encode, selBits, beq_iff_eq, opcodeRows]
  apply BitVec.eq_of_getLsbD_eq
  intro i hi
  simp only [List.cons_append, List.nil_append, List.getD_cons_succ, List.getD_cons_zero, BitVec.getLsbD_and,
    BitVec.getLsbD_or, BitVec.getLsbD_setWidth]
  interval_cases i <;> simp

theorem outd2 (b : Byte) : Statement (.outd2 b) := by
  intro cfg _
  simp only [Instr.row, Instr.rowIndex, Row.fits, encode, selBits, beq_iff_eq, opcodeRows]
  apply BitVec.eq_of_getLsbD_eq
  intro i hi
  simp only [List.cons_append, List.nil_append, List.getD_cons_succ, List.getD_cons_zero, BitVec.getLsbD_and,
    BitVec.getLsbD_or, BitVec.getLsbD_setWidth]
  interval_cases i <;> simp

theorem ind0 : Statement .ind0 :=
  fun _ _ => (by decide : Instr.ind0.row.fits (encode Config.defaults .ind0) = true)

theorem ind1 : Statement .ind1 :=
  fun _ _ => (by decide : Instr.ind1.row.fits (encode Config.defaults .ind1) = true)

theorem ind2 : Statement .ind2 :=
  fun _ _ => (by decide : Instr.ind2.row.fits (encode Config.defaults .ind2) = true)

theorem incmd : Statement .incmd :=
  fun _ _ => (by decide : Instr.incmd.row.fits (encode Config.defaults .incmd) = true)

theorem inaux : Statement .inaux :=
  fun _ _ => (by decide : Instr.inaux.row.fits (encode Config.defaults .inaux) = true)

theorem query : Statement .query :=
  fun _ _ => (by decide : Instr.query.row.fits (encode Config.defaults .query) = true)

theorem reset : Statement .reset :=
  fun _ _ => (by decide : Instr.reset.row.fits (encode Config.defaults .reset) = true)

end Sys2Proof.Laws.RowFit
end

