-- ==== Sys2Proof/Laws/Decode.lean ====
section
/-! SUPPORT. The parameters matter to the decoder and the encoder in READBACK only (30_encoding.md R87). -/

namespace Sys2Proof

/-- A word that is no READBACK under some parameters decodes alike under all. -/
theorem decode_congr (cfg cfg' : Config) (t : TWord)
    (h : ∀ mask cnt sta spare, decode cfg' t ≠ .instr (.readback mask cnt sta spare)) :
    decode cfg t = decode cfg' t := by
  unfold decode at h ⊢
  split
  · split <;> first | rfl | skip
    unfold decodeCommand at h ⊢
    split <;> first | rfl | skip
    refine absurd ?_
      (h (maskField (dataField t)) (flagField cfg' (dataField t) cfg'.rbCountBit)
        (flagField cfg' (dataField t) cfg'.rbStatusBit) ((dataField t).getLsbD (spareBit cfg')))
    simp [*]
  all_goals rfl

/-- An operation that is no READBACK is encoded alike under all parameters. -/
theorem encode_congr (cfg cfg' : Config) (i : Instr)
    (h : ∀ mask cnt sta spare, i ≠ .readback mask cnt sta spare) : encode cfg i = encode cfg' i := by
  cases i with
  | readback mask cnt sta spare => exact absurd rfl (h mask cnt sta spare)
  | _ => rfl

/-- The legal places of the two read-back flags (R11). -/
theorem flagBits_cases {cfg : Config} {mask : BitVec 3} {cnt sta spare : Bool}
    (h : (Instr.readback mask cnt sta spare).wf cfg = true) :
    (cfg.rbCountBit = 3 ∨ cfg.rbCountBit = 4 ∨ cfg.rbCountBit = 5) ∧
      (cfg.rbStatusBit = 3 ∨ cfg.rbStatusBit = 4 ∨ cfg.rbStatusBit = 5) ∧ cfg.rbCountBit ≠ cfg.rbStatusBit := by
  simp only [Instr.wf, Bool.and_eq_true, decide_eq_true_eq] at h
  exact ⟨Laws.RowFit.flagBit_cases h.1.1, Laws.RowFit.flagBit_cases h.1.2, h.2⟩

end Sys2Proof
end

