-- ==== Sys2Proof/Laws/State.lean ====
section
/-! SUPPORT. One lemma per field per update of State, so that no proof unfolds a record update. -/

namespace Sys2Proof.Machine

/-! ### Channel access -/

@[simp] theorem State.ch_setCh_same (s : State) (c : Chan) (x : Channel) : (s.setCh c x).ch c = x := by
  cases c <;> rfl

@[simp] theorem State.ch_setCh_other (s : State) (c d : Chan) (x : Channel) (h : d ≠ c) :
    (s.setCh c x).ch d = s.ch d := by
  cases c <;> cases d <;> first | rfl | exact absurd rfl h

@[simp] theorem State.setCh_setCh (s : State) (c : Chan) (x y : Channel) :
    (s.setCh c x).setCh c y = s.setCh c y := by
  cases c <;> rfl

@[simp] theorem State.setCh_ch (s : State) (c : Chan) : s.setCh c (s.ch c) = s := by
  cases c <;> rfl

@[simp] theorem State.ch_c0 (s : State) : s.ch .c0 = s.ch0 := rfl
@[simp] theorem State.ch_c1 (s : State) : s.ch .c1 = s.ch1 := rfl
@[simp] theorem State.ch_c2 (s : State) : s.ch .c2 = s.ch2 := rfl

@[simp] theorem State.setCh_cfg (s : State) (c : Chan) (x : Channel) : (s.setCh c x).cfg = s.cfg := by
  cases c <;> rfl

@[simp] theorem State.setCh_auxFf (s : State) (c : Chan) (x : Channel) : (s.setCh c x).auxFf = s.auxFf := by
  cases c <;> rfl

@[simp] theorem State.setCh_faulted (s : State) (c : Chan) (x : Channel) : (s.setCh c x).faulted = s.faulted := by
  cases c <;> rfl

@[simp] theorem State.setCh_tMax (s : State) (c : Chan) (x : Channel) : (s.setCh c x).tMax = s.tMax := by
  cases c <;> rfl

@[simp] theorem State.setCh_requests (s : State) (c : Chan) (x : Channel) : (s.setCh c x).requests = s.requests := by
  cases c <;> rfl

@[simp] theorem State.setCh_now (s : State) (c : Chan) (x : Channel) : (s.setCh c x).now = s.now := by
  cases c <;> rfl

@[simp] theorem State.setCh_rdata (s : State) (c : Chan) (x : Channel) : (s.setCh c x).rdata = s.rdata := by
  cases c <;> rfl

@[simp] theorem State.setCh_qresult (s : State) (c : Chan) (x : Channel) : (s.setCh c x).qresult = s.qresult := by
  cases c <;> rfl

@[simp] theorem State.setCh_events (s : State) (c : Chan) (x : Channel) : (s.setCh c x).events = s.events := by
  cases c <;> rfl

@[simp] theorem State.setCh_c0_ch0 (s : State) (x : Channel) : (s.setCh .c0 x).ch0 = x := rfl
@[simp] theorem State.setCh_c0_ch1 (s : State) (x : Channel) : (s.setCh .c0 x).ch1 = s.ch1 := rfl
@[simp] theorem State.setCh_c0_ch2 (s : State) (x : Channel) : (s.setCh .c0 x).ch2 = s.ch2 := rfl
@[simp] theorem State.setCh_c1_ch0 (s : State) (x : Channel) : (s.setCh .c1 x).ch0 = s.ch0 := rfl
@[simp] theorem State.setCh_c1_ch1 (s : State) (x : Channel) : (s.setCh .c1 x).ch1 = x := rfl
@[simp] theorem State.setCh_c1_ch2 (s : State) (x : Channel) : (s.setCh .c1 x).ch2 = s.ch2 := rfl
@[simp] theorem State.setCh_c2_ch0 (s : State) (x : Channel) : (s.setCh .c2 x).ch0 = s.ch0 := rfl
@[simp] theorem State.setCh_c2_ch1 (s : State) (x : Channel) : (s.setCh .c2 x).ch1 = s.ch1 := rfl
@[simp] theorem State.setCh_c2_ch2 (s : State) (x : Channel) : (s.setCh .c2 x).ch2 = x := rfl

/-! ### Output signals -/

@[simp] theorem State.emit_cfg (s : State) (e : Event) : (s.emit e).cfg = s.cfg := rfl
@[simp] theorem State.emit_ch0 (s : State) (e : Event) : (s.emit e).ch0 = s.ch0 := rfl
@[simp] theorem State.emit_ch1 (s : State) (e : Event) : (s.emit e).ch1 = s.ch1 := rfl
@[simp] theorem State.emit_ch2 (s : State) (e : Event) : (s.emit e).ch2 = s.ch2 := rfl
@[simp] theorem State.emit_auxFf (s : State) (e : Event) : (s.emit e).auxFf = s.auxFf := rfl
@[simp] theorem State.emit_faulted (s : State) (e : Event) : (s.emit e).faulted = s.faulted := rfl
@[simp] theorem State.emit_tMax (s : State) (e : Event) : (s.emit e).tMax = s.tMax := rfl
@[simp] theorem State.emit_requests (s : State) (e : Event) : (s.emit e).requests = s.requests := rfl
@[simp] theorem State.emit_now (s : State) (e : Event) : (s.emit e).now = s.now := rfl
@[simp] theorem State.emit_rdata (s : State) (e : Event) : (s.emit e).rdata = s.rdata := rfl
@[simp] theorem State.emit_qresult (s : State) (e : Event) : (s.emit e).qresult = s.qresult := rfl
@[simp] theorem State.emit_events (s : State) (e : Event) : (s.emit e).events = s.events ++ [e] := rfl
@[simp] theorem State.emit_ch (s : State) (e : Event) (c : Chan) : (s.emit e).ch c = s.ch c := rfl

@[simp] theorem State.returnByte_cfg (s : State) (v : Byte) : (s.returnByte v).cfg = s.cfg := rfl
@[simp] theorem State.returnByte_ch0 (s : State) (v : Byte) : (s.returnByte v).ch0 = s.ch0 := rfl
@[simp] theorem State.returnByte_ch1 (s : State) (v : Byte) : (s.returnByte v).ch1 = s.ch1 := rfl
@[simp] theorem State.returnByte_ch2 (s : State) (v : Byte) : (s.returnByte v).ch2 = s.ch2 := rfl
@[simp] theorem State.returnByte_auxFf (s : State) (v : Byte) : (s.returnByte v).auxFf = s.auxFf := rfl
@[simp] theorem State.returnByte_faulted (s : State) (v : Byte) : (s.returnByte v).faulted = s.faulted := rfl
@[simp] theorem State.returnByte_tMax (s : State) (v : Byte) : (s.returnByte v).tMax = s.tMax := rfl
@[simp] theorem State.returnByte_requests (s : State) (v : Byte) : (s.returnByte v).requests = s.requests := rfl
@[simp] theorem State.returnByte_now (s : State) (v : Byte) : (s.returnByte v).now = s.now := rfl
@[simp] theorem State.returnByte_rdata (s : State) (v : Byte) : (s.returnByte v).rdata = some v := rfl
@[simp] theorem State.returnByte_qresult (s : State) (v : Byte) : (s.returnByte v).qresult = s.qresult := rfl
@[simp] theorem State.returnByte_events (s : State) (v : Byte) : (s.returnByte v).events = s.events := rfl
@[simp] theorem State.returnByte_ch (s : State) (v : Byte) (c : Chan) : (s.returnByte v).ch c = s.ch c := rfl

@[simp] theorem State.returnQuery_cfg (s : State) (r : QueryResult) : (s.returnQuery r).cfg = s.cfg := rfl
@[simp] theorem State.returnQuery_ch0 (s : State) (r : QueryResult) : (s.returnQuery r).ch0 = s.ch0 := rfl
@[simp] theorem State.returnQuery_ch1 (s : State) (r : QueryResult) : (s.returnQuery r).ch1 = s.ch1 := rfl
@[simp] theorem State.returnQuery_ch2 (s : State) (r : QueryResult) : (s.returnQuery r).ch2 = s.ch2 := rfl
@[simp] theorem State.returnQuery_auxFf (s : State) (r : QueryResult) : (s.returnQuery r).auxFf = s.auxFf := rfl
@[simp] theorem State.returnQuery_faulted (s : State) (r : QueryResult) : (s.returnQuery r).faulted = s.faulted := rfl
@[simp] theorem State.returnQuery_tMax (s : State) (r : QueryResult) : (s.returnQuery r).tMax = s.tMax := rfl
@[simp] theorem State.returnQuery_requests (s : State) (r : QueryResult) : (s.returnQuery r).requests = s.requests := rfl
@[simp] theorem State.returnQuery_now (s : State) (r : QueryResult) : (s.returnQuery r).now = s.now := rfl
@[simp] theorem State.returnQuery_rdata (s : State) (r : QueryResult) : (s.returnQuery r).rdata = s.rdata := rfl
@[simp] theorem State.returnQuery_qresult (s : State) (r : QueryResult) : (s.returnQuery r).qresult = some r := rfl
@[simp] theorem State.returnQuery_events (s : State) (r : QueryResult) : (s.returnQuery r).events = s.events := rfl
@[simp] theorem State.returnQuery_ch (s : State) (r : QueryResult) (c : Chan) : (s.returnQuery r).ch c = s.ch c := rfl

@[simp] theorem State.clearOutputs_cfg (s : State) : (s.clearOutputs).cfg = s.cfg := rfl
@[simp] theorem State.clearOutputs_ch0 (s : State) : (s.clearOutputs).ch0 = s.ch0 := rfl
@[simp] theorem State.clearOutputs_ch1 (s : State) : (s.clearOutputs).ch1 = s.ch1 := rfl
@[simp] theorem State.clearOutputs_ch2 (s : State) : (s.clearOutputs).ch2 = s.ch2 := rfl
@[simp] theorem State.clearOutputs_auxFf (s : State) : (s.clearOutputs).auxFf = s.auxFf := rfl
@[simp] theorem State.clearOutputs_faulted (s : State) : (s.clearOutputs).faulted = s.faulted := rfl
@[simp] theorem State.clearOutputs_tMax (s : State) : (s.clearOutputs).tMax = s.tMax := rfl
@[simp] theorem State.clearOutputs_requests (s : State) : (s.clearOutputs).requests = s.requests := rfl
@[simp] theorem State.clearOutputs_now (s : State) : (s.clearOutputs).now = s.now := rfl
@[simp] theorem State.clearOutputs_rdata (s : State) : (s.clearOutputs).rdata = none := rfl
@[simp] theorem State.clearOutputs_qresult (s : State) : (s.clearOutputs).qresult = none := rfl
@[simp] theorem State.clearOutputs_events (s : State) : (s.clearOutputs).events = [] := rfl
@[simp] theorem State.clearOutputs_ch (s : State) (c : Chan) : (s.clearOutputs).ch c = s.ch c := rfl

@[simp] theorem State.enterFault_cfg (s : State) (r : Fault) : (s.enterFault r).cfg = s.cfg := rfl
@[simp] theorem State.enterFault_ch0 (s : State) (r : Fault) : (s.enterFault r).ch0 = s.ch0 := rfl
@[simp] theorem State.enterFault_ch1 (s : State) (r : Fault) : (s.enterFault r).ch1 = s.ch1 := rfl
@[simp] theorem State.enterFault_ch2 (s : State) (r : Fault) : (s.enterFault r).ch2 = s.ch2 := rfl
@[simp] theorem State.enterFault_auxFf (s : State) (r : Fault) : (s.enterFault r).auxFf = s.auxFf := rfl
@[simp] theorem State.enterFault_faulted (s : State) (r : Fault) : (s.enterFault r).faulted = some r := rfl
@[simp] theorem State.enterFault_tMax (s : State) (r : Fault) : (s.enterFault r).tMax = s.tMax := rfl
@[simp] theorem State.enterFault_requests (s : State) (r : Fault) : (s.enterFault r).requests = s.requests := rfl
@[simp] theorem State.enterFault_now (s : State) (r : Fault) : (s.enterFault r).now = s.now := rfl
@[simp] theorem State.enterFault_rdata (s : State) (r : Fault) : (s.enterFault r).rdata = none := rfl
@[simp] theorem State.enterFault_qresult (s : State) (r : Fault) : (s.enterFault r).qresult = none := rfl
@[simp] theorem State.enterFault_events (s : State) (r : Fault) : (s.enterFault r).events = [] := rfl
@[simp] theorem State.enterFault_ch (s : State) (r : Fault) (c : Chan) : (s.enterFault r).ch c = s.ch c := rfl

@[simp] theorem State.emitIf_cfg (s : State) (p : Bool) (e : Event) : (s.emitIf p e).cfg = s.cfg := by
  cases p <;> rfl
@[simp] theorem State.emitIf_ch0 (s : State) (p : Bool) (e : Event) : (s.emitIf p e).ch0 = s.ch0 := by
  cases p <;> rfl
@[simp] theorem State.emitIf_ch1 (s : State) (p : Bool) (e : Event) : (s.emitIf p e).ch1 = s.ch1 := by
  cases p <;> rfl
@[simp] theorem State.emitIf_ch2 (s : State) (p : Bool) (e : Event) : (s.emitIf p e).ch2 = s.ch2 := by
  cases p <;> rfl
@[simp] theorem State.emitIf_auxFf (s : State) (p : Bool) (e : Event) : (s.emitIf p e).auxFf = s.auxFf := by
  cases p <;> rfl
@[simp] theorem State.emitIf_faulted (s : State) (p : Bool) (e : Event) : (s.emitIf p e).faulted = s.faulted := by
  cases p <;> rfl
@[simp] theorem State.emitIf_tMax (s : State) (p : Bool) (e : Event) : (s.emitIf p e).tMax = s.tMax := by
  cases p <;> rfl
@[simp] theorem State.emitIf_requests (s : State) (p : Bool) (e : Event) : (s.emitIf p e).requests = s.requests := by
  cases p <;> rfl
@[simp] theorem State.emitIf_now (s : State) (p : Bool) (e : Event) : (s.emitIf p e).now = s.now := by
  cases p <;> rfl
@[simp] theorem State.emitIf_rdata (s : State) (p : Bool) (e : Event) : (s.emitIf p e).rdata = s.rdata := by
  cases p <;> rfl
@[simp] theorem State.emitIf_qresult (s : State) (p : Bool) (e : Event) : (s.emitIf p e).qresult = s.qresult := by
  cases p <;> rfl
@[simp] theorem State.emitIf_ch (s : State) (p : Bool) (e : Event) (c : Chan) :
    (s.emitIf p e).ch c = s.ch c := by
  cases p <;> rfl
@[simp] theorem State.emitIf_events (s : State) (p : Bool) (e : Event) :
    (s.emitIf p e).events = s.events ++ (if p then [e] else []) := by
  cases p <;> simp [State.emitIf, State.emit]

/-! ### Admission -/

@[simp] theorem accept_cfg (i : Instr) (r : Request) (rest : List Request) (s : State) :
    (accept i r rest s).cfg = s.cfg := by
  unfold accept; split <;> rfl
@[simp] theorem accept_ch0 (i : Instr) (r : Request) (rest : List Request) (s : State) :
    (accept i r rest s).ch0 = s.ch0 := by
  unfold accept; split <;> rfl
@[simp] theorem accept_ch1 (i : Instr) (r : Request) (rest : List Request) (s : State) :
    (accept i r rest s).ch1 = s.ch1 := by
  unfold accept; split <;> rfl
@[simp] theorem accept_ch2 (i : Instr) (r : Request) (rest : List Request) (s : State) :
    (accept i r rest s).ch2 = s.ch2 := by
  unfold accept; split <;> rfl
@[simp] theorem accept_auxFf (i : Instr) (r : Request) (rest : List Request) (s : State) :
    (accept i r rest s).auxFf = s.auxFf := by
  unfold accept; split <;> rfl
@[simp] theorem accept_faulted (i : Instr) (r : Request) (rest : List Request) (s : State) :
    (accept i r rest s).faulted = s.faulted := by
  unfold accept; split <;> rfl
@[simp] theorem accept_rdata (i : Instr) (r : Request) (rest : List Request) (s : State) :
    (accept i r rest s).rdata = s.rdata := by
  unfold accept; split <;> rfl
@[simp] theorem accept_qresult (i : Instr) (r : Request) (rest : List Request) (s : State) :
    (accept i r rest s).qresult = s.qresult := by
  unfold accept; split <;> rfl
@[simp] theorem accept_events (i : Instr) (r : Request) (rest : List Request) (s : State) :
    (accept i r rest s).events = s.events := by
  unfold accept; split <;> rfl
@[simp] theorem accept_ch (i : Instr) (r : Request) (rest : List Request) (s : State) (c : Chan) :
    (accept i r rest s).ch c = s.ch c := by
  unfold accept; split <;> rfl
@[simp] theorem accept_requests (i : Instr) (r : Request) (rest : List Request) (s : State) :
    (accept i r rest s).requests = rest := by
  unfold accept; split <;> rfl
@[simp] theorem accept_now (i : Instr) (r : Request) (rest : List Request) (s : State) :
    (accept i r rest s).now = if hasTime i then r.now else s.now := by
  unfold accept; split <;> rfl
@[simp] theorem accept_tMax (i : Instr) (r : Request) (rest : List Request) (s : State) :
    (accept i r rest s).tMax = if hasTime i then some r.now else s.tMax := by
  unfold accept; split <;> rfl

/-- Two states with the same fields are the same state. -/
theorem State.ext_fields {s t : State} (h1 : s.cfg = t.cfg) (h2 : ∀ c, s.ch c = t.ch c) (h3 : s.auxFf = t.auxFf)
    (h4 : s.faulted = t.faulted) (h5 : s.tMax = t.tMax) (h6 : s.requests = t.requests) (h7 : s.now = t.now)
    (h8 : s.rdata = t.rdata) (h9 : s.qresult = t.qresult) (h10 : s.events = t.events) : s = t := by
  have a := h2 .c0
  have b := h2 .c1
  have d := h2 .c2
  cases s; cases t
  simp_all

end Sys2Proof.Machine
end

