-- ==== Sys2Proof/Laws/Ops.lean ====
section
/-! SUPPORT. One law per shared operation: everything it can do. -/

namespace Sys2Proof.Machine

/-! ### Operations and faults -/

/-- Everything an operation can do: its body's state, or the Faulted state entered from where it started. -/
theorem runOp_next {body : State → Except Fault State} {s t : State} :
    runOp body s = .next t ↔
      body s.clearOutputs = .ok t ∨ ∃ r, body s.clearOutputs = .error r ∧ t = s.enterFault r := by
  unfold runOp
  cases h : body s.clearOutputs with
  | ok u => simp
  | error r => simp [eq_comm]

theorem runOp_of_ok {body : State → Except Fault State} {s t : State} (h : body s.clearOutputs = .ok t) :
    runOp body s = .next t :=
  runOp_next.2 (.inl h)

theorem runOp_of_error {body : State → Except Fault State} {s : State} {r : Fault}
    (h : body s.clearOutputs = .error r) : runOp body s = .next (s.enterFault r) :=
  runOp_next.2 (.inr ⟨r, h, rfl⟩)

/-- The body of an operation. -/
def bodyOf (i : Instr) : State → Except Fault State :=
  match i with
  | .latch0 _ => latchBody .c0
  | .latch1 _ => latchBody .c1
  | .latch2 _ => latchBody .c2
  | .modesetLo0 m b => modesetBody .c0 .lo m b
  | .modesetLo1 m b => modesetBody .c1 .lo m b
  | .modesetLo2 m b => modesetBody .c2 .lo m b
  | .modesetHi0 m b => modesetBody .c0 .hi m b
  | .modesetHi1 m b => modesetBody .c1 .hi m b
  | .modesetHi2 m b => modesetBody .c2 .hi m b
  | .modesetWord0 m b => modesetBody .c0 .word m b
  | .modesetWord1 m b => modesetBody .c1 .word m b
  | .modesetWord2 m b => modesetBody .c2 .word m b
  | .readback mask cnt sta _ => readbackBody mask cnt sta
  | .outd0 b => outdBody .c0 b
  | .outd1 b => outdBody .c1 b
  | .outd2 b => outdBody .c2 b
  | .ind0 => indBody .c0
  | .ind1 => indBody .c1
  | .ind2 => indBody .c2
  | .incmd => incmdBody
  | .inaux => inauxBody
  | .query => queryBody
  | .reset => resetBody

/-- Every meaning is one operation over its body. -/
theorem exec_eq_runOp (i : Instr) (s : State) : exec i s = runOp (bodyOf i) s := by
  cases i <;> rfl

theorem exec_latch (c : Chan) (g : BitVec 4) (s : State) : exec (.latch c g) s = runOp (latchBody c) s := by
  cases c <;> rfl

theorem exec_modeset (c : Chan) (a : Access) (m : BitVec 3) (b : Bool) (s : State) :
    exec (.modeset c a m b) s = runOp (modesetBody c a m b) s := by
  cases a <;> cases c <;> rfl

theorem exec_outd (c : Chan) (b : Byte) (s : State) : exec (.outd c b) s = runOp (outdBody c b) s := by
  cases c <;> rfl

theorem exec_ind (c : Chan) (s : State) : exec (.ind c) s = runOp (indBody c) s := by
  cases c <;> rfl

/-- The twenty-three operations are nine kinds (00_scope.md R4). -/
theorem Instr.kinds (i : Instr) :
    (∃ c g, i = .latch c g) ∨ (∃ c a m b, i = .modeset c a m b) ∨
      (∃ mask cnt sta spare, i = .readback mask cnt sta spare) ∨ (∃ c b, i = .outd c b) ∨
      (∃ c, i = .ind c) ∨ i = .incmd ∨ i = .inaux ∨ i = .query ∨ i = .reset := by
  cases i with
  | latch0 g => exact .inl ⟨.c0, g, rfl⟩
  | latch1 g => exact .inl ⟨.c1, g, rfl⟩
  | latch2 g => exact .inl ⟨.c2, g, rfl⟩
  | modesetLo0 m b => exact .inr (.inl ⟨.c0, .lo, m, b, rfl⟩)
  | modesetLo1 m b => exact .inr (.inl ⟨.c1, .lo, m, b, rfl⟩)
  | modesetLo2 m b => exact .inr (.inl ⟨.c2, .lo, m, b, rfl⟩)
  | modesetHi0 m b => exact .inr (.inl ⟨.c0, .hi, m, b, rfl⟩)
  | modesetHi1 m b => exact .inr (.inl ⟨.c1, .hi, m, b, rfl⟩)
  | modesetHi2 m b => exact .inr (.inl ⟨.c2, .hi, m, b, rfl⟩)
  | modesetWord0 m b => exact .inr (.inl ⟨.c0, .word, m, b, rfl⟩)
  | modesetWord1 m b => exact .inr (.inl ⟨.c1, .word, m, b, rfl⟩)
  | modesetWord2 m b => exact .inr (.inl ⟨.c2, .word, m, b, rfl⟩)
  | readback mask cnt sta spare => exact .inr (.inr (.inl ⟨mask, cnt, sta, spare, rfl⟩))
  | outd0 b => exact .inr (.inr (.inr (.inl ⟨.c0, b, rfl⟩)))
  | outd1 b => exact .inr (.inr (.inr (.inl ⟨.c1, b, rfl⟩)))
  | outd2 b => exact .inr (.inr (.inr (.inl ⟨.c2, b, rfl⟩)))
  | ind0 => exact .inr (.inr (.inr (.inr (.inl ⟨.c0, rfl⟩))))
  | ind1 => exact .inr (.inr (.inr (.inr (.inl ⟨.c1, rfl⟩))))
  | ind2 => exact .inr (.inr (.inr (.inr (.inl ⟨.c2, rfl⟩))))
  | incmd => simp
  | inaux => simp
  | query => simp
  | reset => simp

/-! ### Channel operations -/

theorem reloadValue_pos (v : Half) : reloadValue v ≠ 0 := by
  unfold reloadValue countMax
  split
  · omega
  · next h => exact fun k => h (BitVec.eq_of_toNat_eq (by simpa using k))

theorem reloadValue_le (v : Half) : reloadValue v ≤ 65536 := by
  have := v.isLt
  unfold reloadValue countMax
  split <;> omega

/-- A load leaves `last_count` at 0: the live count at the moment of the load (R141). -/
theorem loadCount_lastCount (cfg : Config) (ch : Channel) (v : Half) (now : Nat) :
    (loadCount cfg ch v now).lastCount = 0 := by
  simp [loadCount, liveCount, elapsedTicks, microsToTicks_zero, countAfter_zero]

/-- Everything `latchCounter` can do. -/
theorem latchCounter_cases (cfg : Config) (ch : Channel) (now : Nat) :
    (ch.ctPend = true ∧ latchCounter cfg ch now = ch) ∨
      (ch.ctPend = false ∧
        latchCounter cfg ch now =
          { ch with
            ctMode := ch.rwMode, ctHi := false, ctPend := true,
            counterLatch := snapshot ch.rwMode (BitVec.ofNat 16 (liveCount cfg ch now)) }) := by
  cases h : ch.ctPend <;> simp [latchCounter, h]

/-- The counter latch leaves every field that the level and the status byte read. -/
theorem latchCounter_keeps (cfg : Config) (ch : Channel) (now : Nat) :
    (latchCounter cfg ch now).count = ch.count ∧ (latchCounter cfg ch now).lastLoad = ch.lastLoad ∧
      (latchCounter cfg ch now).mode = ch.mode ∧ (latchCounter cfg ch now).rwMode = ch.rwMode ∧
      (latchCounter cfg ch now).bcd = ch.bcd ∧ (latchCounter cfg ch now).stPend = ch.stPend ∧
      (latchCounter cfg ch now).statusLatch = ch.statusLatch := by
  unfold latchCounter
  split <;> simp

/-- Everything `latchStatus` can do. -/
theorem latchStatus_cases (cfg : Config) (ch : Channel) (now : Nat) :
    (ch.stPend = true ∧ latchStatus cfg ch now = .ok ch) ∨
      (ch.stPend = false ∧ ∃ l, outputLevel cfg ch now = .ok l ∧
        latchStatus cfg ch now =
          .ok { ch with statusLatch := statusByte l ch.rwMode ch.mode ch.bcd, stPend := true }) ∨
      (ch.stPend = false ∧ ∃ r, outputLevel cfg ch now = .error r ∧ latchStatus cfg ch now = .error r) := by
  cases h : ch.stPend with
  | true => simp [latchStatus, h]
  | false =>
    cases k : outputLevel cfg ch now with
    | ok l => simp [latchStatus, h, k]
    | error r => simp [latchStatus, h, k]

/-- RESET's channel is the power-on channel, whatever it was (R146, R49). -/
theorem resetChannel_eq (c : Chan) (ch : Channel) : resetChannel c ch = Channel.reset c := by
  cases c <;> rfl

/-- Everything OUTD can do to its channel. -/
theorem writeData_cases (cfg : Config) (ch : Channel) (b : Byte) (now : Nat) :
    (∃ v k, writeData cfg ch b now = .ok { loadCount cfg ch v now with wcursor := k } ∧
        (ch.wcursor = .lo ∧ v = loadValueLo b ∧ k = .lo ∨ ch.wcursor = .hi ∧ v = loadValueHi b ∧ k = .hi ∨
          ch.wcursor = .whi ∧ v = loadValueWord b ch.interim ∧ k = .wlo)) ∨
      (ch.wcursor = .wlo ∧ writeData cfg ch b now = .ok { ch with interim := b, wcursor := .whi }) ∨
      (ch.wcursor = .unprog ∧ writeData cfg ch b now = .error .unprogrammedAccess) := by
  cases h : ch.wcursor with
  | lo =>
    refine .inl ⟨loadValueLo b, .lo, ?_, .inl ⟨rfl, rfl, rfl⟩⟩
    simp [writeData, h, loadCount]
  | hi =>
    refine .inl ⟨loadValueHi b, .hi, ?_, .inr (.inl ⟨rfl, rfl, rfl⟩)⟩
    simp [writeData, h, loadCount]
  | whi =>
    refine .inl ⟨loadValueWord b ch.interim, .wlo, ?_, .inr (.inr ⟨rfl, rfl, rfl⟩)⟩
    simp [writeData, h]
  | wlo => simp [writeData, h]
  | unprog => simp [writeData, h]

theorem bitVec2_cases (m : BitVec 2) : m = 0 ∨ m = 1 ∨ m = 2 ∨ m = 3 := by
  revert m; decide

/-- Everything a read of a pending counter latch can do, by its recorded pattern (R170). -/
theorem readCounterLatch_cases (ch : Channel) :
    (ch.ctMode = 0 ∧ readCounterLatch ch = .error .unprogrammedAccess) ∨
      ((ch.ctMode = 1 ∨ ch.ctMode = 2) ∧
        readCounterLatch ch = .ok ({ ch with ctPend := false }, lowByte ch.counterLatch)) ∨
      (ch.ctMode = 3 ∧ ch.ctHi = false ∧
        readCounterLatch ch = .ok ({ ch with ctHi := true }, lowByte ch.counterLatch)) ∨
      (ch.ctMode = 3 ∧ ch.ctHi = true ∧
        readCounterLatch ch = .ok ({ ch with ctHi := false, ctPend := false }, highByte ch.counterLatch)) := by
  rcases bitVec2_cases ch.ctMode with h | h | h | h
  · exact .inl ⟨h, by simp [readCounterLatch, h]⟩
  · exact .inr (.inl ⟨.inl h, by simp [readCounterLatch, h]⟩)
  · exact .inr (.inl ⟨.inr h, by simp [readCounterLatch, h]⟩)
  · cases k : ch.ctHi with
    | false => exact .inr (.inr (.inl ⟨h, rfl, by simp [readCounterLatch, h, k]⟩))
    | true => exact .inr (.inr (.inr ⟨h, rfl, by simp [readCounterLatch, h, k]⟩))

/-- Everything a live read can do, by the read cursor (R170). -/
theorem readLive_cases (cfg : Config) (ch : Channel) (now : Nat) :
    let v : Half := BitVec.ofNat 16 (liveCount cfg ch now)
    (ch.rcursor = .lo ∧ readLive cfg ch now = .ok (ch, lowByte v)) ∨
      (ch.rcursor = .hi ∧ readLive cfg ch now = .ok (ch, highByte v)) ∨
      (ch.rcursor = .wlo ∧ readLive cfg ch now = .ok ({ ch with rcursor := .whi }, lowByte v)) ∨
      (ch.rcursor = .whi ∧ readLive cfg ch now = .ok ({ ch with rcursor := .wlo }, highByte v)) ∨
      (ch.rcursor = .unprog ∧ readLive cfg ch now = .error .unprogrammedAccess) := by
  cases h : ch.rcursor <;> simp [readLive, h]

/-- The priority of a data read: status latch, counter latch, live count (R170). -/
theorem readData_cases (cfg : Config) (ch : Channel) (now : Nat) :
    (ch.stPend = true ∧ readData cfg ch now = .ok ({ ch with stPend := false }, ch.statusLatch)) ∨
      (ch.stPend = false ∧ ch.ctPend = true ∧ readData cfg ch now = readCounterLatch ch) ∨
      (ch.stPend = false ∧ ch.ctPend = false ∧ readData cfg ch now = readLive cfg ch now) := by
  cases h : ch.stPend <;> cases k : ch.ctPend <;> simp [readData, h, k]

/-- What a data read that answers does to its channel: it touches only the two pending flags, `ct_hi` and
`rcursor`. -/
theorem readData_ok {cfg : Config} {ch x : Channel} {now : Nat} {v : Byte}
    (h : readData cfg ch now = .ok (x, v)) :
    x = { ch with stPend := false } ∨ x = { ch with ctPend := false } ∨
      (x = { ch with ctHi := true } ∧ ch.ctPend = true ∧ ch.ctMode = 3) ∨
      x = { ch with ctHi := false, ctPend := false } ∨ x = ch ∨
      (x = { ch with rcursor := .whi } ∧ ch.rcursor = .wlo) ∨
      (x = { ch with rcursor := .wlo } ∧ ch.rcursor = .whi) := by
  rcases readData_cases cfg ch now with ⟨-, e⟩ | ⟨-, hp, e⟩ | ⟨-, -, e⟩ <;> rw [e] at h
  · cases h; exact .inl rfl
  · rcases readCounterLatch_cases ch with ⟨-, k⟩ | ⟨-, k⟩ | ⟨hm, -, k⟩ | ⟨-, -, k⟩ <;> rw [k] at h <;> cases h
    · exact .inr (.inl rfl)
    · exact .inr (.inr (.inl ⟨rfl, hp, hm⟩))
    · exact .inr (.inr (.inr (.inl rfl)))
  · rcases readLive_cases cfg ch now with ⟨-, k⟩ | ⟨-, k⟩ | ⟨hc, k⟩ | ⟨hc, k⟩ | ⟨-, k⟩ <;> rw [k] at h <;> cases h
    · exact .inr (.inr (.inr (.inr (.inl rfl))))
    · exact .inr (.inr (.inr (.inr (.inl rfl))))
    · exact .inr (.inr (.inr (.inr (.inr (.inl ⟨rfl, hc⟩)))))
    · exact .inr (.inr (.inr (.inr (.inr (.inr ⟨rfl, hc⟩)))))

/-- Everything one channel's turn in READBACK can do: nothing when it is not selected; else the latches of the
selected channel, or the fault of its output level (R168). -/
theorem readbackTurn_cases (mask : BitVec 3) (cnt sta : Bool) (c : Chan) (s : State) :
    (maskBit mask c = false ∧ readbackTurn mask cnt sta c s = .ok s) ∨
      (maskBit mask c = true ∧ ∃ x, readbackTurn mask cnt sta c s = .ok (s.setCh c x) ∧
        ((sta = false ∧ x = if cnt then latchCounter s.cfg (s.ch c) s.now else s.ch c) ∨
          (sta = true ∧
            latchStatus s.cfg (if cnt then latchCounter s.cfg (s.ch c) s.now else s.ch c) s.now = .ok x))) ∨
      (maskBit mask c = true ∧ sta = true ∧ ∃ r, readbackTurn mask cnt sta c s = .error r ∧
        latchStatus s.cfg (if cnt then latchCounter s.cfg (s.ch c) s.now else s.ch c) s.now = .error r) := by
  cases hm : maskBit mask c with
  | false => simp [readbackTurn, hm]
  | true =>
    cases hs : sta with
    | false => simp [readbackTurn, hm]
    | true =>
      cases hl : latchStatus s.cfg (if cnt then latchCounter s.cfg (s.ch c) s.now else s.ch c) s.now with
      | ok x => exact .inr (.inl ⟨rfl, x, by simp [readbackTurn, hm, hl], by simp⟩)
      | error r => exact .inr (.inr ⟨rfl, rfl, r, by simp [readbackTurn, hm, hl], rfl⟩)

/-! ### Admission -/

/-- Everything admission can answer in a block that is not Faulted, with an operation waiting (R226). -/
theorem admissionOf_cases (r : Request) (rest : List Request) (s : State) :
    (∃ why, decodeWord s.cfg r.word = .illegal why ∧ admissionOf r rest s = .refuse .illegalTransaction) ∨
      (∃ i, decodeWord s.cfg r.word = .instr i ∧ hasTime i = true ∧ timeRegresses s r.now = true ∧
        admissionOf r rest s = .refuse .timeRegression) ∨
      (∃ i, decodeWord s.cfg r.word = .instr i ∧ (hasTime i = true → timeRegresses s r.now = false) ∧
        admissionOf r rest s = .run i (accept i r rest s)) := by
  cases h : decodeWord s.cfg r.word with
  | illegal why => exact .inl ⟨why, rfl, by simp [admissionOf, h]⟩
  | instr i =>
    cases ht : hasTime i <;> cases hr : timeRegresses s r.now <;> simp [admissionOf, h, ht, hr]

/-- Everything a step that answers a next state has done: held the state, or admitted the oldest operation and
run its meaning. -/
theorem step_next {s t : State} (h : step s = .next t) :
    s.faulted = none ∧
      ((s.requests = [] ∧ t = s) ∨
        ∃ r rest i, s.requests = r :: rest ∧ decodeWord s.cfg r.word = .instr i ∧
          (hasTime i = true → timeRegresses s r.now = false) ∧ exec i (accept i r rest s) = .next t) := by
  unfold step admission at h
  cases hf : s.faulted with
  | some r => simp [hf] at h
  | none =>
    cases hq : s.requests with
    | nil => simp only [hf, hq] at h; cases h; exact ⟨rfl, .inl ⟨rfl, rfl⟩⟩
    | cons r rest =>
      simp only [hf, hq] at h
      rcases admissionOf_cases r rest s with ⟨_, _, e⟩ | ⟨_, _, _, _, e⟩ | ⟨i, hd, ht, e⟩ <;> rw [e] at h
      · cases h
      · cases h
      · exact ⟨rfl, .inr ⟨r, rest, i, rfl, hd, ht, h⟩⟩

end Sys2Proof.Machine
end

