-- ==== Sys2Proof/Laws/Exec.lean ====
section
/-! SUPPORT. Everything an operation can do, said once: the inversion of `exec`. -/

namespace Sys2Proof.Machine

/-- What one turn of READBACK does to a channel when it answers a state (42_port_dispatch.md R168). -/
def TurnResult (cfg : Config) (mask : BitVec 3) (cnt sta : Bool) (now : Nat) (c : Chan) (x y : Channel) : Prop :=
  (maskBit mask c = false ∧ y = x) ∨
    (maskBit mask c = true ∧
      ((sta = false ∧ y = if cnt then latchCounter cfg x now else x) ∨
        (sta = true ∧ latchStatus cfg (if cnt then latchCounter cfg x now else x) now = .ok y)))

theorem readbackTurn_ok {mask : BitVec 3} {cnt sta : Bool} {c : Chan} {s t : State}
    (h : readbackTurn mask cnt sta c s = .ok t) :
    ∃ y, t = s.setCh c y ∧ TurnResult s.cfg mask cnt sta s.now c (s.ch c) y := by
  rcases readbackTurn_cases mask cnt sta c s with ⟨hm, e⟩ | ⟨hm, x, e, hx⟩ | ⟨_, _, r, e, _⟩ <;> rw [e] at h <;> cases h
  · exact ⟨s.ch c, by simp, .inl ⟨hm, rfl⟩⟩
  · exact ⟨x, rfl, .inr ⟨hm, hx⟩⟩

/-- Everything READBACK does when it answers a state: one turn for each channel, nothing else. -/
theorem readbackBody_ok {mask : BitVec 3} {cnt sta : Bool} {s t : State} (h : readbackBody mask cnt sta s = .ok t) :
    ∃ y0 y1 y2, t = { s with ch0 := y0, ch1 := y1, ch2 := y2 } ∧
      TurnResult s.cfg mask cnt sta s.now .c0 s.ch0 y0 ∧ TurnResult s.cfg mask cnt sta s.now .c1 s.ch1 y1 ∧
      TurnResult s.cfg mask cnt sta s.now .c2 s.ch2 y2 := by
  unfold readbackBody at h
  cases e0 : readbackTurn mask cnt sta .c0 s with
  | error r => simp [e0] at h
  | ok s0 =>
    simp only [e0] at h
    cases e1 : readbackTurn mask cnt sta .c1 s0 with
    | error r => simp [e1] at h
    | ok s1 =>
      simp only [e1] at h
      obtain ⟨y0, rfl, h0⟩ := readbackTurn_ok e0
      obtain ⟨y1, rfl, h1⟩ := readbackTurn_ok e1
      obtain ⟨y2, rfl, h2⟩ := readbackTurn_ok h
      exact ⟨y0, y1, y2, rfl, h0, h1, h2⟩

/-- The three endings of QUERY (43_scheduler.md R200): stopped, one-shot wrap, or running on. -/
theorem queryBody_cases (s : State) :
    (s.ch0.running = false ∧ queryBody s = .ok (s.returnQuery .noEvent)) ∨
      (s.ch0.running = true ∧ s.ch0.lastCount < liveCount s.cfg s.ch0 s.now ∧ oneShotMode s.ch0.mode = true ∧
        queryBody s =
          .ok ({ (s.emit .lower).emit .raise with ch0 := { s.ch0 with running := false } }.returnQuery .noEvent)) ∨
      (s.ch0.running = true ∧ s.ch0.lastCount < liveCount s.cfg s.ch0 s.now ∧ oneShotMode s.ch0.mode = false ∧
        queryBody s = .ok (queryKeepRunning (liveCount s.cfg s.ch0 s.now) ((s.emit .lower).emit .raise))) ∨
      (s.ch0.running = true ∧ ¬ s.ch0.lastCount < liveCount s.cfg s.ch0 s.now ∧
        queryBody s = .ok (queryKeepRunning (liveCount s.cfg s.ch0 s.now) s)) := by
  cases hr : s.ch0.running with
  | false => simp [queryBody, hr]
  | true =>
    by_cases hw : s.ch0.lastCount < liveCount s.cfg s.ch0 s.now
    · cases ho : oneShotMode s.ch0.mode <;> simp [queryBody, hr, hw, ho]
    · simp [queryBody, hr, hw]

/-- Everything an operation can do: enter the Faulted state, or what its kind does. -/
theorem exec_next_cases {i : Instr} {s t : State} (h : exec i s = .next t) :
    (∃ r, bodyOf i s.clearOutputs = .error r ∧ t = s.enterFault r) ∨
    (∃ c g, i = .latch c g ∧ t = s.clearOutputs.setCh c (latchCounter s.cfg (s.ch c) s.now)) ∨
    (∃ c a m b, i = .modeset c a m b ∧
      t = ((s.clearOutputs.setCh c (configureChannel a m b (s.ch c))).emitIf b .bcdUnsupported).emitIf
        (mode2Quirk c m) .raise) ∨
    (∃ mask cnt sta spare y0 y1 y2, i = .readback mask cnt sta spare ∧
      t = { s.clearOutputs with ch0 := y0, ch1 := y1, ch2 := y2 } ∧
      TurnResult s.cfg mask cnt sta s.now .c0 s.ch0 y0 ∧ TurnResult s.cfg mask cnt sta s.now .c1 s.ch1 y1 ∧
      TurnResult s.cfg mask cnt sta s.now .c2 s.ch2 y2) ∨
    (∃ c b x, i = .outd c b ∧ writeData s.cfg (s.ch c) b s.now = .ok x ∧ t = s.clearOutputs.setCh c x) ∨
    (∃ c x v, i = .ind c ∧ readData s.cfg (s.ch c) s.now = .ok (x, v) ∧
      t = (s.clearOutputs.setCh c x).returnByte v) ∨
    (∃ lvl, i = .inaux ∧ outputLevel s.cfg s.ch2 s.now = .ok lvl ∧
      t = { s.clearOutputs with auxFf := !s.auxFf }.returnByte (auxByte lvl (!s.auxFf))) ∨
    (i = .query ∧ queryBody s.clearOutputs = .ok t) ∨
    (i = .reset ∧
      t = { s.clearOutputs with
        ch0 := Channel.reset .c0, ch1 := Channel.reset .c1, ch2 := Channel.reset .c2, auxFf := false }) := by
  rw [exec_eq_runOp, runOp_next] at h
  rcases h with h | h
  · right
    rcases Instr.kinds i with ⟨c, g, rfl⟩ | ⟨c, a, m, b, rfl⟩ | ⟨mask, cnt, sta, spare, rfl⟩ | ⟨c, b, rfl⟩ |
      ⟨c, rfl⟩ | rfl | rfl | rfl | rfl
    · left
      have e : latchBody c s.clearOutputs = .ok t := by cases c <;> exact h
      cases e
      exact ⟨c, g, rfl, by simp⟩
    · right; left
      have e : modesetBody c a m b s.clearOutputs = .ok t := by cases c <;> cases a <;> exact h
      cases e
      exact ⟨c, a, m, b, rfl, by simp⟩
    · right; right; left
      obtain ⟨y0, y1, y2, e, h0, h1, h2⟩ := readbackBody_ok (s := s.clearOutputs) h
      exact ⟨mask, cnt, sta, spare, y0, y1, y2, rfl, e, h0, h1, h2⟩
    · right; right; right; left
      have e : outdBody c b s.clearOutputs = .ok t := by cases c <;> exact h
      unfold outdBody at e
      split at e <;> cases e
      next x hx => exact ⟨c, b, x, rfl, by simpa using hx, rfl⟩
    · right; right; right; right; left
      have e : indBody c s.clearOutputs = .ok t := by cases c <;> exact h
      unfold indBody at e
      split at e <;> cases e
      next x v hx => exact ⟨c, x, v, rfl, by simpa using hx, rfl⟩
    · cases h
    · right; right; right; right; right; left
      have e : inauxBody s.clearOutputs = .ok t := h
      simp only [inauxBody] at e
      split at e <;> cases e
      next lvl hl => exact ⟨lvl, rfl, by simpa using hl, by simp⟩
    · right; right; right; right; right; right; left
      exact ⟨rfl, h⟩
    · right; right; right; right; right; right; right
      have e : resetBody s.clearOutputs = .ok t := h
      cases e
      exact ⟨rfl, by simp [resetChannel_eq]⟩
  · exact .inl h

end Sys2Proof.Machine
end

