-- ==== Sys2Proof/Tests/Slice0.lean ====
section
/-! SUPPORT. The model's own tests. Expected results are the vectors of spec/95_test_vectors.md (named in each
comment) or hand evaluation of the rule named; then one witness for the hypotheses of each statement. -/

namespace Sys2Proof.Tests

open Sys2Proof Sys2Proof.Machine Sys2Proof.Claims

/-! ## Helpers -/

/-- A channel programmed in an access pattern and mode, and loaded with `n` at time 0. -/
def progCh (c : Chan) (a : Access) (m : BitVec 3) (n : Nat) : Channel :=
  { Channel.reset c with
    mode := m, rwMode := rwModeOf a, rcursor := startCursor a, wcursor := startCursor a, count := n,
    lastLoad := some 0, lastIrq := some 0, running := true, period := ticksToMicros Config.defaults n }

/-- The power-on state with one channel replaced. -/
def withCh (c : Chan) (x : Channel) : State := State.reset.setCh c x

/-- Channels 0, 1 and 2 as in 95 L1.10 after its step 6. -/
def threeLoaded : State :=
  { State.reset with
    ch0 := progCh .c0 .word 2 1193, ch1 := progCh .c1 .word 2 1000, ch2 := progCh .c2 .lo 3 5 }

/-- A step on the word `w` at time `now` answers a next state with a property. -/
def stepIs (s : State) (w now : Nat) (p : State → Bool) : Bool :=
  match step { s with requests := [⟨w, now⟩] } with
  | .next t => p t
  | .fault _ => false
  | .refused _ => false

/-- A step on the word `w` at time `now` is refused for a reason. -/
def stepRefuses (s : State) (w now : Nat) (r : Refusal) : Bool :=
  match step { s with requests := [⟨w, now⟩] } with
  | .next _ => false
  | .fault _ => false
  | .refused q => decide (q = r)

/-- The next state of an operation. -/
def after (i : Instr) (s : State) : State :=
  match exec i s with
  | .next t => t
  | .fault _ => s
  | .refused _ => s

theorem exec_after (i : Instr) (s : State) : exec i s = .next (after i s) := by
  unfold after
  rw [exec_eq_runOp]
  unfold runOp
  cases bodyOf i s.clearOutputs <;> rfl

/-! ## Well-formedness: each check refuses an ill-formed term -/

theorem test_wf_refuses_zero_frequency : Config.wf { Config.defaults with oscHz := 0 } = false := by decide

theorem test_wf_refuses_low_flag_bit :
    Config.wf { Config.defaults with rbCountBit := 2 } = false ∧
      (Instr.readback 1 true true false).wf { Config.defaults with rbCountBit := 2 } = false := by decide

theorem test_wf_refuses_high_flag_bit :
    Config.wf { Config.defaults with rbStatusBit := 6 } = false ∧
      (Instr.readback 1 true true false).wf { Config.defaults with rbStatusBit := 6 } = false := by decide

theorem test_wf_refuses_equal_flag_bits :
    Config.wf { Config.defaults with rbStatusBit := 5 } = false ∧
      (Instr.readback 1 true true false).wf { Config.defaults with rbStatusBit := 5 } = false := by decide

theorem test_wf_refuses_wide_word : wordFits 0x2000 = false ∧ decodeTableWord 16 0x2000 = none := by decide

theorem test_wf_accepts_defaults : Config.defaults.wf = true ∧ Instr.wf Config.defaults .reset = true := by decide

/-! ## Decoding: a word for every constructor, written out from 30 R80 to R87 and the table of R96 -/

/-- `000 11 cc 00 xxxx`. -/
theorem test_decode_latch :
    decodeTableWord 16 0b0001100000101 = some (.latch0 5) ∧ decodeTableWord 16 0b0001101001111 = some (.latch1 15) ∧
      decodeTableWord 16 0b0001110000000 = some (.latch2 0) := by decide

/-- `000 11 cc 01 mmm b`. -/
theorem test_decode_modeset_lo :
    decodeTableWord 16 0b0001100010000 = some (.modesetLo0 0 false) ∧
      decodeTableWord 16 0b0001101011100 = some (.modesetLo1 6 false) ∧
      decodeTableWord 16 0b0001110010001 = some (.modesetLo2 0 true) := by decide

/-- `000 11 cc 10 mmm b`. -/
theorem test_decode_modeset_hi :
    decodeTableWord 16 0b0001100101011 = some (.modesetHi0 5 true) ∧
      decodeTableWord 16 0b0001101100100 = some (.modesetHi1 2 false) ∧
      decodeTableWord 16 0b0001110100110 = some (.modesetHi2 3 false) := by decide

/-- `000 11 cc 11 mmm b`. -/
theorem test_decode_modeset_word :
    decodeTableWord 16 0b0001100111101 = some (.modesetWord0 6 true) ∧
      decodeTableWord 16 0b0001101110100 = some (.modesetWord1 2 false) ∧
      decodeTableWord 16 0b0001110111001 = some (.modesetWord2 4 true) := by decide

/-- `000 11 11 cs x mmm`, flags at bits 5 and 4, active-high. -/
theorem test_decode_readback :
    decodeTableWord 16 0b0001111010100 = some (.readback 4 false true false) ∧
      decodeTableWord 16 0b0001111101010 = some (.readback 2 true false true) := by decide

/-- `000 cc bbbbbbbb`, `001 cc 0`, `001 11 0`, `010`, `011`, `100`. -/
theorem test_decode_ports :
    decodeTableWord 16 0b0000010101001 = some (.outd0 0xA9) ∧ decodeTableWord 16 0b0000100000011 = some (.outd1 3) ∧
      decodeTableWord 16 0b0001011111111 = some (.outd2 0xFF) ∧ decodeTableWord 16 0b0010000000000 = some .ind0 ∧
      decodeTableWord 16 0b0010100000000 = some .ind1 ∧ decodeTableWord 16 0b0011000000000 = some .ind2 ∧
      decodeTableWord 16 0b0011100000000 = some .incmd ∧ decodeTableWord 16 0b0100000000000 = some .inaux ∧
      decodeTableWord 16 0b0110000000000 = some .query ∧ decodeTableWord 16 0b1000000000000 = some .reset := by decide

/-- 95 section 2.2, the ILLEGAL rows. -/
theorem test_decode_illegal :
    decode Config.defaults 0x401 = .illegal .unusedFieldNotZero ∧
      decode Config.defaults 0x900 = .illegal .unusedFieldNotZero ∧
      decode Config.defaults 0xC01 = .illegal .unusedFieldNotZero ∧
      decode Config.defaults 0x1100 = .illegal .unusedFieldNotZero ∧
      decode Config.defaults 0x1400 = .illegal .reservedOp ∧ decode Config.defaults 0x1800 = .illegal .reservedOp ∧
      decode Config.defaults 0x1C00 = .illegal .reservedOp := by decide

/-- 95 section 2.2: with RB_ACTIVE_LOW, 0x3F5 requests nothing. -/
theorem test_decode_readback_active_low :
    decode { Config.defaults with rbActiveLow := true } 0x3F5 = .instr (.readback 5 false false false) := by decide

/-! ## Counter arithmetic -/

/-- 95 section 3.1. -/
theorem test_ticksToMicros :
    (ticksToMicros Config.defaults 1193, ticksToMicros Config.defaults 65535, ticksToMicros Config.defaults 65536) =
      (999, 54924, 54925) := by decide

/-- 95 section 3.1. -/
theorem test_microsToTicks :
    (microsToTicks Config.defaults 5, microsToTicks Config.defaults 6, microsToTicks Config.defaults 54926) =
      (5, 7, 65536) := by decide

/-- 95 L1.1: count 5 over ticks 0 to 11. -/
theorem test_countAfter :
    (List.range 12).map (countAfter 5) = [0, 4, 3, 2, 1, 0, 4, 3, 2, 1, 0, 4] := by decide

/-- 95 section 3.3: mode 3 for n = 5, 6 and 7. -/
theorem test_level3 :
    (List.range 5).map (level3 5) = [false, false, false, true, true] ∧
      (List.range 6).map (level3 6) = [true, true, false, false, false, false] ∧
      (List.range 7).map (level3 7) = [false, false, false, false, true, true, true] := by decide

/-- 95 section 3.3: n = 4 in modes 0, 1, 2 and 4. -/
theorem test_levels :
    (List.range 4).map (level0 4) = [false, false, false, false] ∧
      (List.range 4).map (level1 4) = [true, true, true, true] ∧
      (List.range 4).map level2 = [true, false, true, true] ∧
      (List.range 4).map level45 = [false, true, true, true] := by decide

/-! ## Operations: one step each -/

/-- 95 L1.10: live 1182 = 0x049E in the word pattern. -/
theorem test_latch0 :
    stepIs threeLoaded 0x300 10 (fun t => t.ch0.counterLatch == 0x049E && t.ch0.ctPend && t.ch0.ctMode == 3) := by
  decide

/-- 95 section 3.5: 0x34F is LATCH 1 and leaves the mode alone. -/
theorem test_latch1_ignores_low_bits :
    stepIs threeLoaded 0x34F 10 (fun t => t.ch1.counterLatch == 0x03DD && t.ch1.mode == 2 && t.events.isEmpty) := by
  decide

/-- 95 section 3.5: HI pattern, live 757, the latch holds 0x02. -/
theorem test_latch2_high_byte :
    stepIs (withCh .c2 (progCh .c2 .hi 2 768)) 0x380 10 (fun t => t.ch2.counterLatch == 0x02) := by decide

/-- 95 section 3.6. -/
theorem test_modesetLo0 :
    stepIs State.reset 0x310 0 (fun t =>
      t.ch0.rwMode == 1 && t.ch0.rcursor == .lo && t.ch0.wcursor == .lo && t.events.isEmpty) := by decide

/-- 42 R162: mode 6 is stored. -/
theorem test_modesetLo1_mode6 :
    stepIs State.reset 0x35C 0 (fun t => t.ch1.mode == 6 && t.ch1.count == 0 && t.events.isEmpty) := by decide

/-- 95 section 3.6. -/
theorem test_modesetLo2_bcd :
    stepIs State.reset 0x391 0 (fun t => t.ch2.bcd && t.events == [.bcdUnsupported]) := by decide

/-- 42 R166: M = 2 on channel 0 raises in the HI pattern too. -/
theorem test_modesetHi0_quirk :
    stepIs State.reset 0x324 0 (fun t => t.ch0.wcursor == .hi && t.events == [.raise]) := by decide

/-- 42 R166: no quirk on channel 1. -/
theorem test_modesetHi1 :
    stepIs State.reset 0x364 0 (fun t => t.ch1.rwMode == 2 && t.ch1.mode == 2 && t.events.isEmpty) := by decide

/-- 95 section 3.6. -/
theorem test_modesetHi2 :
    stepIs State.reset 0x3A6 0 (fun t => t.ch2.rwMode == 2 && t.ch2.rcursor == .hi && t.ch2.mode == 3) := by decide

/-- 95 section 3.6. -/
theorem test_modesetWord0_both_events :
    stepIs State.reset 0x335 0 (fun t => t.ch0.wcursor == .wlo && t.events == [.bcdUnsupported, .raise]) := by decide

/-- 42 R162: a MODESET keeps a pending latch and the count. -/
theorem test_modesetWord1_keeps_latch :
    stepIs (withCh .c1 { progCh .c1 .lo 2 5 with ctPend := true, counterLatch := 7 }) 0x374 0 (fun t =>
      t.ch1.ctPend && t.ch1.counterLatch == 7 && t.ch1.count == 5 && t.ch1.running) := by decide

/-- 42 R165. -/
theorem test_modesetWord2 :
    stepIs State.reset 0x3B8 0 (fun t => t.ch2.rwMode == 3 && t.ch2.rcursor == .wlo && t.ch2.mode == 4) := by decide

/-- 95 L1.10, step 7. -/
theorem test_readback_two_channels :
    stepIs threeLoaded 0x3F5 10 (fun t =>
      t.ch0.statusLatch == 0xB4 && t.ch0.counterLatch == 0x049E && t.ch2.statusLatch == 0x16 &&
        t.ch2.counterLatch == 0x04 && !t.ch1.stPend && !t.ch1.ctPend) := by decide

/-- 95 section 3.7: the fault discards the latches already taken on channel 0. -/
theorem test_readback_fault_discards :
    stepIs (withCh .c1 (progCh .c1 .lo 6 5)) 0x3F3 1 (fun t =>
      t.faulted == some .undefinedMode && !t.ch0.ctPend && !t.ch0.stPend && t.tMax == some 1) := by decide

/-- 95 section 3.4: 0 loads 65536. -/
theorem test_outd0_zero :
    stepIs (withCh .c0 { progCh .c0 .lo 0 9 with count := 0, running := false }) 0x000 0 (fun t =>
      t.ch0.count == 65536 && t.ch0.period == 54925 && t.ch0.running && t.ch0.lastCount == 0 && t.ch0.wcursor == .lo) := by
  decide

/-- 95 section 3.4: an unprogrammed channel faults. -/
theorem test_outd0_unprogrammed :
    stepIs State.reset 0x012 0 (fun t =>
      t == { State.reset with faulted := some .unprogrammedAccess, tMax := some 0, now := 0 }) := by decide

/-- 95 L1.3, step 3. -/
theorem test_outd1_completes_word :
    stepIs (withCh .c1 { progCh .c1 .word 2 9 with interim := 0xE8, wcursor := .whi }) 0x103 50 (fun t =>
      t.ch1.count == 1000 && t.ch1.lastLoad == some 50 && t.ch1.wcursor == .wlo) := by decide

/-- 95 section 3.4: HI pattern, 0x12 loads 4608. -/
theorem test_outd2_high :
    stepIs (withCh .c2 (progCh .c2 .hi 0 9)) 0x212 0 (fun t => t.ch2.count == 4608 && t.ch2.wcursor == .hi) := by decide

/-- 95 P1, steps 5 and 9: live 1192 = 0x04A8, low byte first. -/
theorem test_ind0_live_low :
    stepIs threeLoaded 0x400 1001 (fun t => t.rdata == some 0xA8 && t.ch0.rcursor == .whi) := by decide

/-- 95 L1.3, step 7: live 989 = 0x03DD, high byte second. -/
theorem test_ind1_live_high :
    stepIs (withCh .c1 { progCh .c1 .word 2 1000 with rcursor := .whi }) 0x500 10 (fun t =>
      t.rdata == some 0x03 && t.ch1.rcursor == .wlo) := by decide

/-- 95 L1.5, step 11: the high byte of a word latch clears it. -/
theorem test_ind1_latch_high :
    stepIs (withCh .c1 { progCh .c1 .word 2 1000 with ctPend := true, ctMode := 3, ctHi := true, counterLatch := 0x0395 })
      0x500 90 (fun t => t.rdata == some 0x03 && !t.ch1.ctPend && !t.ch1.ctHi && t.ch1.rcursor == .wlo) := by decide

/-- 95 L1.10, step 11: the status latch goes first. -/
theorem test_ind2_status_first :
    stepIs (withCh .c2 { progCh .c2 .lo 3 5 with stPend := true, statusLatch := 0x16, ctPend := true, ctMode := 1 })
      0x600 20 (fun t => t.rdata == some 0x16 && !t.ch2.stPend && t.ch2.ctPend) := by decide

/-- 95 section 3.8. -/
theorem test_ind2_unprogrammed :
    stepIs State.reset 0x600 0 (fun t => t.faulted == some .unprogrammedAccess && t.rdata == none) := by decide

/-- 95 section 3.10. -/
theorem test_incmd : stepIs State.reset 0x700 0 (fun t => t.faulted == some .readCommandRegister) := by decide

/-- 95 P3, step 4: phase 3 of mode 3 with count 5 is high, and `aux_ff` toggles to 0. -/
theorem test_inaux_level :
    stepIs { withCh .c2 (progCh .c2 .lo 3 5) with auxFf := true } 0x800 3 (fun t =>
      t.rdata == some 0x20 && !t.auxFf) := by decide

/-- 95 section 3.11: the toggle is discarded by the fault. -/
theorem test_inaux_fault :
    stepIs (withCh .c2 (progCh .c2 .lo 6 5)) 0x800 1 (fun t =>
      t.faulted == some .undefinedMode && !t.auxFf && t.rdata == none) := by decide

/-- 95 L1.8, step 4. -/
theorem test_query_rate_generator :
    stepIs threeLoaded 0xC00 1001 (fun t =>
      t.qresult == some (.budget 999) && t.events == [.lower, .raise] && t.ch0.lastCount == 1192 && t.ch0.running) := by
  decide

/-- 95 P2, step 3: a one-shot stops at the first query. -/
theorem test_query_one_shot :
    stepIs (withCh .c0 (progCh .c0 .lo 0 100)) 0xC00 10 (fun t =>
      t.qresult == some .noEvent && t.events == [.lower, .raise] && !t.ch0.running && t.ch0.lastCount == 0) := by decide

/-- 95 section 3.13: RESET keeps `t_max`. -/
theorem test_reset_keeps_tMax :
    stepIs { threeLoaded with tMax := some 100, auxFf := true } 0x1000 0 (fun t =>
      t == { State.reset with tMax := some 100 }) := by decide

/-- 95 section 3.13 and P5: RESET is refused in the Faulted state. -/
theorem test_reset_refused_when_faulted :
    stepRefuses { State.reset with faulted := some .unprogrammedAccess } 0x1000 0 .faulted := by decide

/-- 95 section 3.14: the FAULTED check comes before the decoder. -/
theorem test_faulted_before_illegal :
    stepRefuses { State.reset with faulted := some .unprogrammedAccess } 0x1400 0 .faulted ∧
      stepRefuses State.reset 0x1400 0 .illegalTransaction := by decide

/-- 95 section 3.14: INAUX at 9 after 10, then at 10. -/
theorem test_time_regression :
    stepRefuses { State.reset with tMax := some 10, auxFf := true } 0x800 9 .timeRegression ∧
      stepIs { State.reset with tMax := some 10, auxFf := true } 0x800 10 (fun t => t.rdata == some 0x00) := by decide

/-! ## Witnesses: a state and operands that meet the hypotheses of each statement -/

theorem witness_DecodeInvertsEncode : (Instr.readback 5 true false true).wf Config.defaults = true := by decide

theorem witness_EncodeInvertsDecode :
    (Instr.readback 5 true true false).wf Config.defaults = true ∧
      decode Config.defaults 0x3F5 = .instr (.readback 5 true true false) := by decide

theorem witness_LegalWordsFitExactlyOneRow :
    decode Config.defaults 0x340 = .instr (.latch1 0) ∧ 22 < opcodeRows.length ∧
      decode Config.defaults 0x401 = .illegal .unusedFieldNotZero := by decide

theorem witness_LiveCountObeysTheLaw :
    (Channel.reset .c0).count = 0 ∧ (progCh .c0 .lo 0 65536).count ≠ 0 ∧ (progCh .c0 .lo 0 65536).lastLoad = some 0 ∧
      0 ≤ 0 ∧ (progCh .c0 .lo 0 65536).count ≤ 65536 ∧
      (progCh .c2 .word 5 65536).count = (progCh .c0 .lo 0 65536).count := by decide

theorem witness_LiveCountRisesOncePerPeriod : 0 < 2 ∧ 3 % 2 ≠ 0 ∧ 2 ≤ 2 ∧ 0 < 1 := by decide

theorem witness_WrapSeenExactlyAtTickOne : 3 < 4 ∧ 2 ≤ 2 ∧ 4 - 3 < 2 := by decide

theorem witness_ConversionsAreFloors : 0 < Config.defaults.oscHz ∧ 1000000 < Config.defaults.oscHz := by decide

theorem witness_PulseModesGoLowAtOnePhase :
    (progCh .c0 .lo 2 1).count ≠ 0 ∧ (progCh .c0 .lo 2 1).lastLoad = some 0 ∧ 0 ≤ 7 ∧ (progCh .c0 .lo 2 1).mode = 2 ∧
      (progCh .c0 .lo 4 1).mode = 4 ∧ (progCh .c0 .lo 5 1).mode = 5 := by decide

theorem witness_SquareWaveSplitsOddAndEven :
    (progCh .c2 .lo 3 65536).count ≠ 0 ∧ (progCh .c2 .lo 3 65536).mode = 3 ∧ 0 < 1 := by decide

theorem witness_OneShotLevelsAreConstant :
    (progCh .c0 .lo 0 1).count ≠ 0 ∧ (progCh .c0 .lo 0 1).mode = 0 ∧ (progCh .c0 .lo 1 1).count ≠ 0 ∧
      (progCh .c0 .lo 1 1).mode = 1 := by decide

theorem witness_LevelFaultsExactlyInLoadedModes6And7 :
    (Channel.reset .c2).count = 0 ∧ levelUndefined (progCh .c2 .lo 6 1) ∧ levelUndefined (progCh .c2 .lo 7 1) := by
  decide

theorem witness_CountingIgnoresGateBcdRunningAndLatches :
    { progCh .c0 .word 2 5 with running := false, bcd := true, gate := false, ctPend := true }.count =
        (progCh .c0 .word 2 5).count ∧
      { progCh .c0 .word 2 5 with running := false, bcd := true, gate := false, ctPend := true }.lastLoad =
        (progCh .c0 .word 2 5).lastLoad := by decide

theorem witness_StatusLatchPacksTheStatusByte :
    ({ progCh .c0 .lo 2 5 with stPend := true } : Channel).stPend = true ∧ (progCh .c0 .lo 5 5).stPend = false ∧
      ¬ levelUndefined (progCh .c0 .lo 5 5) ∧ (progCh .c0 .lo 6 5).stPend = false ∧
      levelUndefined (progCh .c0 .lo 6 5) := by decide

theorem witness_LatchFreezesTheLiveCount :
    ((withCh .c1 { progCh .c1 .word 2 5 with ctPend := true }).ch .c1).ctPend = true ∧
      (threeLoaded.ch .c1).ctPend = false := by decide

theorem witness_ReadbackLatchesTheSelectedChannels :
    ¬ levelUndefined (threeLoaded.ch .c0) ∧ ¬ levelUndefined (threeLoaded.ch .c1) ∧
      ¬ levelUndefined (threeLoaded.ch .c2) ∧ maskBit 7 .c2 = true := by decide

theorem witness_OutdStashesOrLoads :
    (progCh .c0 .lo 0 5).wcursor = .lo ∧ (progCh .c0 .hi 0 5).wcursor = .hi ∧ (progCh .c0 .word 0 5).wcursor = .wlo ∧
      ({ progCh .c0 .word 0 5 with wcursor := .whi } : Channel).wcursor = .whi := by decide

theorem witness_IndReturnsTheStatusLatchFirst :
    ((withCh .c2 { progCh .c2 .lo 3 5 with stPend := true }).ch .c2).stPend = true := by decide

/-- A state whose channel 0 holds a pending counter latch of pattern `m`. -/
def ctPending (m : BitVec 2) (hi : Bool) : State :=
  withCh .c0 { progCh .c0 .word 2 5 with ctPend := true, ctMode := m, ctHi := hi }

theorem witness_IndConsumesTheCounterLatch :
    ∀ m hi, ((ctPending m hi).ch .c0).stPend = false ∧ ((ctPending m hi).ch .c0).ctPend = true ∧
      ((ctPending m hi).ch .c0).ctMode = m ∧ ((ctPending m hi).ch .c0).ctHi = hi := by decide

theorem witness_IndReadsTheLiveCount :
    (threeLoaded.ch .c2).stPend = false ∧ (threeLoaded.ch .c2).ctPend = false ∧ (threeLoaded.ch .c2).rcursor = .lo ∧
      ((withCh .c0 (progCh .c0 .hi 2 5)).ch .c0).rcursor = .hi ∧ (threeLoaded.ch .c1).stPend = false ∧
      (threeLoaded.ch .c1).ctPend = false ∧ (threeLoaded.ch .c1).rcursor = .wlo ∧
      ((withCh .c0 { progCh .c0 .word 2 5 with rcursor := .whi }).ch .c0).rcursor = .whi := by decide

theorem witness_InauxTogglesAndReports :
    ¬ levelUndefined State.reset.ch2 ∧ ¬ levelUndefined (progCh .c2 .lo 5 5) ∧
      ¬ levelUndefined { progCh .c2 .lo 6 5 with count := 0 } := by decide

theorem witness_QueryDetectsTheWrap :
    State.reset.ch0.running = false ∧ wrapSeen { threeLoaded with now := 1001 } ∧ threeLoaded.ch0.mode = 2 ∧
      wrapSeen { withCh .c0 (progCh .c0 .lo 6 100) with now := 85 } ∧ (progCh .c0 .lo 6 100).mode ≠ 2 ∧
      (progCh .c0 .lo 6 100).mode ≠ 3 ∧ threeLoaded.ch0.running = true ∧ ¬ wrapSeen threeLoaded := by decide

theorem witness_AfterResetNothingIsProgrammed : exec .reset threeLoaded = .next (after .reset threeLoaded) :=
  exec_after _ _

theorem witness_StepRunsTheDecodedOperation :
    decode State.reset.cfg (BitVec.ofNat 13 0x1000) = .instr .reset ∧ 0x1000 < 8192 ∧ State.reset.faulted = none ∧
      decode State.reset.cfg (BitVec.ofNat 13 0xC00) = .instr .query ∧ 0xC00 < 8192 ∧
      ({ State.reset with requests := [⟨0xC00, 7⟩], tMax := some 7 } : State).requests = ⟨0xC00, 7⟩ :: [] := by decide

theorem witness_StepRefusesExactlyAsAdmissionSays :
    ({ State.reset with faulted := some .undefinedMode } : State).faulted ≠ none ∧
      decode State.reset.cfg (BitVec.ofNat 13 0x1FFF) = .illegal .reservedOp ∧
      decode State.reset.cfg (BitVec.ofNat 13 0xC00) = .instr .query ∧ Instr.query ≠ .reset ∧ 6 < 7 := by decide

theorem witness_IdleStepHoldsTheState : State.reset.faulted = none ∧ State.reset.requests = [] := by decide

theorem witness_PlacedWordIsTheNextOperation :
    State.reset.faulted = none ∧ decodeWord State.reset.cfg (0x1000 % 2 ^ 16) = .instr .reset ∧
      decodeWord State.reset.cfg (0x334 % 2 ^ 16) = .instr (.modesetWord0 2 false) := by decide

/-- `threeLoaded` after its loads at time 0, with a READBACK waiting. -/
def threeLoadedAtZero : State := { threeLoaded with tMax := some 0, requests := [⟨0x3F5, 10⟩] }

theorem threeLoadedAtZero_inv : threeLoadedAtZero.Inv := by
  refine ⟨?_, ?_, ?_⟩ <;> exact ⟨by decide, by decide, by decide, by decide, by decide⟩

theorem witness_EveryStepKeepsTheInvariant :
    threeLoadedAtZero.Inv ∧ stepIs threeLoadedAtZero 0x3F5 10 (fun _ => true) :=
  ⟨threeLoadedAtZero_inv, by decide⟩

theorem witness_OnlyTimeDifferencesAreObservable :
    threeLoadedAtZero.Inv ∧ threeLoadedAtZero.requests = [⟨0x3F5, 10⟩] :=
  ⟨threeLoadedAtZero_inv, by decide⟩

theorem witness_TimeNeverRegresses :
    stepIs { threeLoaded with tMax := some 5 } 0xC00 10 (fun t => t.tMax == some 10) ∧
      decodeWord threeLoaded.cfg 0x1000 = .instr .reset ∧ decodeWord threeLoaded.cfg 0xC00 ≠ .instr .reset := by decide

theorem witness_FaultsExactly :
    Raises .incmd State.reset .readCommandRegister ∧ Raises .ind0 State.reset .unprogrammedAccess ∧
      Raises .inaux (withCh .c2 (progCh .c2 .lo 7 5)) .undefinedMode :=
  ⟨.inl ⟨rfl, rfl⟩, .inr (.inl ⟨rfl, .c0, .inr ⟨rfl, rfl, .inr ⟨rfl, rfl⟩⟩⟩),
    .inr (.inr ⟨rfl, .inl ⟨rfl, by decide⟩⟩)⟩

theorem witness_FaultsExactly_more :
    Raises (.outd1 7) State.reset .unprogrammedAccess ∧ Raises .ind0 (ctPending 0 false) .unprogrammedAccess ∧
      Raises (.readback 4 false true false) (withCh .c2 (progCh .c2 .lo 6 1)) .undefinedMode :=
  ⟨.inr (.inl ⟨rfl, .c1, .inl ⟨7, rfl, rfl⟩⟩), .inr (.inl ⟨rfl, .c0, .inr ⟨rfl, rfl, .inl ⟨rfl, rfl⟩⟩⟩),
    .inr (.inr ⟨rfl, .inr ⟨4, false, false, .c2, rfl, by decide, rfl, by decide⟩⟩)⟩

theorem witness_FaultsExactly_none : ∀ r, ¬ Raises .query State.reset r := by
  rintro r (⟨-, h⟩ | ⟨-, c, (⟨b, h, -⟩ | ⟨h, -⟩)⟩ | ⟨-, (⟨h, -⟩ | ⟨_, _, _, _, h, -⟩)⟩)
  · cases h
  · cases c <;> cases h
  · cases c <;> cases h
  · cases h
  · cases h

theorem witness_InterruptsHaveTwoSources :
    exec .query { threeLoaded with now := 1001 } = .next (after .query { threeLoaded with now := 1001 }) ∧
      wrapSeen { threeLoaded with now := 1001 } ∧
      Instr.modeset .c0 .lo 2 true = .modesetLo0 2 true :=
  ⟨exec_after _ _, by decide, rfl⟩

/-- The third clause: a MODESET of channel 1 with M = 2, and a QUERY that sees no wrap. -/
theorem witness_InterruptsHaveTwoSources_none :
    exec (.modeset .c1 .lo 2 true) threeLoaded = .next (after (.modeset .c1 .lo 2 true) threeLoaded) ∧
      ¬ (Instr.modeset .c1 .lo 2 true = .query ∧ wrapSeen threeLoaded) ∧
      (¬ ∃ a b, Instr.modeset .c1 .lo 2 true = .modeset .c0 a 2 b) ∧
      exec .query threeLoaded = .next (after .query threeLoaded) ∧ ¬ (Instr.query = .query ∧ wrapSeen threeLoaded) ∧
      ¬ ∃ a b, Instr.query = .modeset .c0 a 2 b :=
  ⟨exec_after _ _, by decide, fun ⟨a, _, h⟩ => (by cases a <;> cases h), exec_after _ _, by decide,
    fun ⟨a, _, h⟩ => (by cases a <;> cases h)⟩

theorem witness_BcdIsReportedByModesetOnly :
    exec (.modeset .c1 .hi 6 true) State.reset = .next (after (.modeset .c1 .hi 6 true) State.reset) :=
  exec_after _ _

theorem witness_PendingLatchesAreImmutable :
    exec .ind1 (withCh .c1 { progCh .c1 .word 2 9 with ctPend := true, ctMode := 3, stPend := true }) =
        .next (after .ind1 (withCh .c1 { progCh .c1 .word 2 9 with ctPend := true, ctMode := 3, stPend := true })) ∧
      Instr.ind1 ≠ .reset :=
  ⟨exec_after _ _, by decide⟩

theorem witness_EachFieldHasItsWriters :
    exec .query threeLoaded = .next (after .query threeLoaded) ∧ Instr.query ≠ .reset ∧
      (∀ b, Instr.query ≠ .outd .c1 b) ∧ (∀ a m b, Instr.query ≠ .modeset .c1 a m b) ∧ Instr.query ≠ .ind .c1 ∧
      (∀ g, Instr.query ≠ .latch .c1 g) ∧ ¬ (Instr.query = .query ∧ Chan.c1 = .c0) ∧ Instr.query ≠ .inaux :=
  ⟨exec_after _ _, by decide, fun _ h => (by cases h), fun a _ _ h => (by cases a <;> cases h), by decide,
    fun _ h => (by cases h), by decide, by decide⟩

/-- A QUERY and a READBACK of channel 2 alone, seen from channel 1. -/
theorem witness_ChannelsDoNotDisturbEachOther :
    exec .query threeLoaded = .next (after .query threeLoaded) ∧ Instr.query ≠ .reset ∧
      (∀ g, Instr.query ≠ .latch .c1 g) ∧ (∀ a m b, Instr.query ≠ .modeset .c1 a m b) ∧
      (∀ b, Instr.query ≠ .outd .c1 b) ∧ Instr.query ≠ .ind .c1 ∧ ¬ (Instr.query = .query ∧ Chan.c1 = .c0) ∧
      maskBit 4 .c1 = false :=
  ⟨exec_after _ _, by decide, fun _ h => (by cases h), fun a _ _ h => (by cases a <;> cases h),
    fun _ h => (by cases h), by decide, by decide, by decide⟩

theorem witness_Channel0FeedsQueryAndChannel2FeedsInaux :
    threeLoaded.cfg = State.reset.cfg ∧ threeLoaded.now = State.reset.now ∧
      exec .query threeLoaded = .next (after .query threeLoaded) ∧
      ({ threeLoaded with ch1 := Channel.reset .c1 } : State).ch0 = threeLoaded.ch0 ∧
      ({ threeLoaded with ch1 := Channel.reset .c1 } : State).ch2 = threeLoaded.ch2 :=
  ⟨by decide, by decide, exec_after _ _, by decide, by decide⟩

/-- The INAUX clause, from two states that differ in `faulted` and in channel 0. -/
theorem witness_Channel0FeedsQueryAndChannel2FeedsInaux_inaux :
    ({ threeLoaded with faulted := some .undefinedMode, ch0 := Channel.reset .c0 } : State).ch2 = threeLoaded.ch2 ∧
      ({ threeLoaded with faulted := some .undefinedMode, ch0 := Channel.reset .c0 } : State).auxFf = threeLoaded.auxFf ∧
      exec .inaux threeLoaded = .next (after .inaux threeLoaded) ∧
      exec .inaux { threeLoaded with faulted := some .undefinedMode, ch0 := Channel.reset .c0 } =
        .next (after .inaux { threeLoaded with faulted := some .undefinedMode, ch0 := Channel.reset .c0 }) :=
  ⟨by decide, by decide, exec_after _ _, exec_after _ _⟩

theorem witness_OperationsKeepParametersAndInterface :
    exec .inaux threeLoaded = .next (after .inaux threeLoaded) :=
  exec_after _ _

theorem witness_StoppedChannelStaysStoppedUntilReloaded :
    exec .ind0 { threeLoaded with ch0 := { threeLoaded.ch0 with running := false } } =
        .next (after .ind0 { threeLoaded with ch0 := { threeLoaded.ch0 with running := false } }) ∧
      (∀ b, Instr.ind0 ≠ .outd .c0 b) :=
  ⟨exec_after _ _, fun _ h => by cases h⟩

theorem witness_WordWriteLoadsLowThenHigh :
    (threeLoaded.ch .c1).wcursor = .wlo ∧
      exec (.outd .c1 0xE8) threeLoaded = .next (after (.outd .c1 0xE8) threeLoaded) ∧
      exec (.outd .c1 3) { after (.outd .c1 0xE8) threeLoaded with now := 4 } =
        .next (after (.outd .c1 3) { after (.outd .c1 0xE8) threeLoaded with now := 4 }) :=
  ⟨by decide, exec_after _ _, exec_after _ _⟩

/-- The hypotheses on operations of the two statements below are met by `exec_after`, as above. -/
theorem witness_LatchedWordReadsTheFrozenCount :
    (threeLoaded.ch .c1).rwMode = 3 ∧ (threeLoaded.ch .c1).ctPend = false ∧ (threeLoaded.ch .c1).stPend = false ∧
      (threeLoaded.ch .c1).count ≤ 65536 ∧ ∃ t u v w,
        exec (.latch .c1 0) { threeLoaded with now := 10 } = .next t ∧ exec (.ind .c1) { t with now := 30 } = .next u ∧
          exec (.latch .c1 0) { u with now := 35 } = .next v ∧ exec (.ind .c1) { v with now := 40 } = .next w :=
  ⟨by decide, by decide, by decide, by decide, _, _, _, _, exec_after _ _, exec_after _ _, exec_after _ _, exec_after _ _⟩

theorem witness_ModesetAbandonsAHalfWrittenWord :
    (threeLoaded.ch .c0).wcursor = .wlo ∧ ∃ t u v w,
        exec (.outd .c0 0xA9) threeLoaded = .next t ∧ exec (.modeset .c0 .word 0 false) { t with now := 0 } = .next u ∧
          exec (.outd .c0 0x10) { u with now := 1 } = .next v ∧ exec (.outd .c0 0) { v with now := 1 } = .next w :=
  ⟨by decide, _, _, _, _, exec_after _ _, exec_after _ _, exec_after _ _, exec_after _ _⟩

/-- One load of each pattern, the word's with a stashed low byte. -/
theorem witness_FirstQueryAfterALoadReportsAWrap :
    completesLoad (progCh .c0 .lo 0 9) 0 65536 ∧ completesLoad (progCh .c0 .hi 2 9) 255 65280 ∧
      completesLoad { progCh .c0 .word 3 9 with wcursor := .whi, interim := 0xA9 } 4 1193 ∧
      (withCh .c0 (progCh .c0 .lo 0 9)).now ≤ 10 ∧ ∃ t u,
        exec (.outd0 0) (withCh .c0 (progCh .c0 .lo 0 9)) = .next t ∧ exec .query { t with now := 10 } = .next u :=
  ⟨.inl (by decide), .inr (.inl (by decide)), .inr (.inr (by decide)), by decide, _, _, exec_after _ _, exec_after _ _⟩

/-- The wrap and the no-wrap ending of the first QUERY: 11 ticks into a count of 100, and 0 ticks into it. -/
theorem witness_FirstQueryAfterALoadReportsAWrap_endings :
    interrupts (after .query { after (.outd0 100) (withCh .c0 (progCh .c0 .hi 0 9)) with now := 10 }).events =
        [.lower, .raise] ∧
      interrupts (after .query { after (.outd0 100) (withCh .c0 (progCh .c0 .hi 0 9)) with now := 0 }).events = [] := by
  decide

theorem witness_OnlyChannel0HasAnEdgeDetector :
    exec (.outd .c2 7) threeLoaded = .next (after (.outd .c2 7) threeLoaded) ∧ Chan.c2 ≠ .c0 ∧
      mayAddress (.outd .c2 7) .c2 ∧ completesLoad (threeLoaded.ch .c2) 7 7 ∧ (threeLoaded.ch .c2).running = true ∧
      exec .query threeLoaded = .next (after .query threeLoaded) ∧ Instr.query ≠ .reset ∧
      exec .reset threeLoaded = .next (after .reset threeLoaded) :=
  ⟨exec_after _ _, by decide, .inr (.inr (.inl ⟨7, rfl⟩)), .inl (by decide), by decide, exec_after _ _, by decide,
    exec_after _ _⟩

theorem witness_BcdReportIsNotAFault :
    exec (.modeset .c0 .lo 2 true) threeLoaded = .next (after (.modeset .c0 .lo 2 true) threeLoaded) ∧
      .bcdUnsupported ∈ (after (.modeset .c0 .lo 2 true) threeLoaded).events :=
  ⟨exec_after _ _, by decide⟩

end Sys2Proof.Tests
end

