-- ==== Sys2Proof/Proofs/CounterArithmetic.lean ====
section
/-! PROOFS. Counter arithmetic (40_counter_arithmetic.md): the live count, the square wave and the pulse modes. -/

namespace Sys2Proof.Proofs.CounterArithmetic

open Sys2Proof Sys2Proof.Machine

/-! ### The counter of a loaded channel -/

/-- `countAfter` as an integer is the Euclidean remainder itself: truncating to `Nat` loses nothing (R114). -/
theorem coe_countAfter {n : Nat} (h : 0 < n) (t : Nat) :
    (countAfter n t : Int) = ((n : Int) - (t : Int)) % (n : Int) :=
  Int.toNat_of_nonneg (Int.emod_nonneg _ (Int.natCast_ne_zero.mpr h.ne'))

theorem liveCount_loaded (cfg : Config) (ch : Channel) {l now : Nat} (h : ch.count ≠ 0)
    (hload : ch.lastLoad = some l) (hl : l ≤ now) :
    liveCount cfg ch now = countAfter ch.count (microsToTicks cfg (now - l)) := by
  rw [liveCount, if_neg h, elapsedTicks_loaded cfg ch hload hl]

theorem phase_loaded (cfg : Config) (ch : Channel) {l now : Nat} (hload : ch.lastLoad = some l) (hl : l ≤ now) :
    phase cfg ch now = microsToTicks cfg (now - l) % ch.count := by
  rw [phase, elapsedTicks_loaded cfg ch hload hl]

/-! ### The waveform of each mode -/

theorem outputLevel_mode2 (cfg : Config) (ch : Channel) (now : Nat) (h : ch.count ≠ 0) (hm : ch.mode = 2) :
    outputLevel cfg ch now = .ok (level2 (phase cfg ch now)) := by
  simp [outputLevel, h, hm]

theorem outputLevel_mode3 (cfg : Config) (ch : Channel) (now : Nat) (h : ch.count ≠ 0) (hm : ch.mode = 3) :
    outputLevel cfg ch now = .ok (level3 ch.count (phase cfg ch now)) := by
  simp [outputLevel, h, hm]

theorem outputLevel_mode4_or_5 (cfg : Config) (ch : Channel) (now : Nat) (h : ch.count ≠ 0)
    (hm : ch.mode = 4 ∨ ch.mode = 5) : outputLevel cfg ch now = .ok (level45 (phase cfg ch now)) := by
  rcases hm with hm | hm <;> simp [outputLevel, h, hm]

theorem level2_eq_decide (p : Nat) : level2 p = decide (p ≠ 1) := by
  unfold level2
  split <;> simp [*]

theorem level45_eq_decide (p : Nat) : level45 p = decide (p ≠ 0) := by
  unfold level45
  split <;> simp [*]

theorem level3_of_odd {n : Nat} (h : n % 2 = 1) : level3 n = fun p => decide ((n + 1) / 2 ≤ p) :=
  funext fun _ => if_pos h

theorem level3_of_even {n : Nat} (h : n % 2 ≠ 1) : level3 n = fun p => decide (p < (n - 1) / 2) :=
  funext fun _ => if_neg h

/-! ### The square wave over one period -/

/-- The high phases of an odd count are those from `(n + 1) / 2` up to the period's end (R121). -/
theorem filter_level3_of_odd {n : Nat} (h : n % 2 = 1) :
    (List.range n).filter (level3 n) = List.Ico ((n + 1) / 2) n := by
  rw [level3_of_odd h, ← List.Ico.zero_bot, List.Ico.filter_le_of_le (Nat.zero_le _)]

/-- The high phases of an even count are those below `(n - 1) / 2` (R121). -/
theorem filter_level3_of_even {n : Nat} (h : n % 2 ≠ 1) :
    (List.range n).filter (level3 n) = List.Ico 0 ((n - 1) / 2) := by
  have hle : (n - 1) / 2 ≤ n := by omega
  rw [level3_of_even h, ← List.Ico.zero_bot, List.Ico.filter_lt_of_ge hle]

theorem length_filter_level3 {n : Nat} (hn : 0 < n) :
    ((List.range n).filter (level3 n)).length = if n % 2 = 1 then (n - 1) / 2 else n / 2 - 1 := by
  split
  case isTrue h =>
    rw [filter_level3_of_odd h, List.Ico.length]
    omega
  case isFalse h =>
    rw [filter_level3_of_even h, List.Ico.length]
    omega

/-! ### The obligations -/

/-- Settles O6: the law of R114 from `coe_countAfter`, the bounds from `liveCount_lt`. -/
theorem liveCountObeysTheLaw : Obligations.LiveCountObeysTheLaw := by
  intro cfg ch now
  refine ⟨liveCount_unloaded cfg ch now, fun l h hload hl => ?_, fun _ => liveCount_congr cfg now⟩
  have hlt : liveCount cfg ch now < ch.count := liveCount_lt cfg ch now h
  refine ⟨hlt, ?_, hlt.trans_le⟩
  rw [liveCount_loaded cfg ch h hload hl, coe_countAfter (Nat.pos_of_ne_zero h)]
  rfl

/-- Settles O11: the level is `level3` of the phase; over a period its high phases form one interval. -/
theorem squareWaveSplitsOddAndEven : Obligations.SquareWaveSplitsOddAndEven :=
  ⟨outputLevel_mode3, fun _ => length_filter_level3⟩

/-- Settles O10: the waveforms `level2` and `level45`, each low at one phase only. -/
theorem pulseModesGoLowAtOnePhase : Obligations.PulseModesGoLowAtOnePhase := by
  intro cfg ch now l h hload hl
  refine ⟨phase_loaded cfg ch hload hl, phase_lt cfg ch now h, fun hm => ?_, fun hm => ?_⟩
  · rw [outputLevel_mode2 cfg ch now h hm, level2_eq_decide]
  · rw [outputLevel_mode4_or_5 cfg ch now h hm, level45_eq_decide]

end Sys2Proof.Proofs.CounterArithmetic
end

