-- ==== Sys2Proof/Proofs/ChannelOps.lean ====
section
/-! PROOFS. The channel operations (41_channel_ops.md): the count load and the status latch. -/

namespace Sys2Proof.Proofs.ChannelOps

open Sys2Proof Sys2Proof.Machine Sys2Proof.Claims

/-! ### The count load -/

/-- The reload value read off the number the load value stands for (R89). -/
theorem reloadValue_eq_ite_toNat (v : Half) : reloadValue v = if v.toNat = 0 then 65536 else v.toNat :=
  if_congr (BitVec.toNat_eq (y := 0)) rfl rfl

/-- The record a load leaves: the load's fields written, `last_count` at 0 (R140, R141). -/
theorem loadCount_eq (cfg : Config) (ch : Channel) (v : Half) (now : Nat) :
    loadCount cfg ch v now =
      { ch with
        count := reloadValue v, lastLoad := some now, lastIrq := some now, running := true,
        period := ticksToMicros cfg (reloadValue v), lastCount := 0 } := by
  rw [← loadCount_lastCount cfg ch v now]
  rfl

/-! ### The status latch -/

/-- The four fields of the status byte do not overlap, so packing them adds their values (30_encoding.md R90). -/
theorem statusByte_eq_ofNat_statusNumber :
    ∀ (lvl : Bool) (rw : BitVec 2) (m : BitVec 3) (b : Bool),
      statusByte lvl rw m b = BitVec.ofNat 8 (statusNumber lvl rw m b) := by decide

theorem latchStatus_of_pending (cfg : Config) (ch : Channel) (now : Nat) (h : ch.stPend = true) :
    latchStatus cfg ch now = .ok ch :=
  if_pos h

theorem latchStatus_of_level (cfg : Config) (ch : Channel) (now : Nat) {lvl : Bool} (h : ch.stPend = false)
    (hl : outputLevel cfg ch now = .ok lvl) :
    latchStatus cfg ch now =
      .ok { ch with
        statusLatch := BitVec.ofNat 8 (statusNumber lvl ch.rwMode ch.mode ch.bcd), stPend := true } := by
  simp [latchStatus, h, hl, statusByte_eq_ofNat_statusNumber]

theorem latchStatus_of_fault (cfg : Config) (ch : Channel) (now : Nat) {r : Fault} (h : ch.stPend = false)
    (hl : outputLevel cfg ch now = .error r) : latchStatus cfg ch now = .error r := by
  simp [latchStatus, h, hl]

theorem outputLevel_of_not_levelUndefined (cfg : Config) (ch : Channel) (now : Nat) (h : ¬ levelUndefined ch) :
    ∃ lvl, outputLevel cfg ch now = .ok lvl := by
  obtain ⟨-, hl⟩ | ⟨hu, -⟩ := outputLevel_cases cfg ch now
  · exact hl
  · exact absurd hu h

theorem outputLevel_of_levelUndefined (cfg : Config) (ch : Channel) (now : Nat) (h : levelUndefined ch) :
    outputLevel cfg ch now = .error .undefinedMode := by
  obtain ⟨hd, -⟩ | ⟨-, he⟩ := outputLevel_cases cfg ch now
  · exact absurd h hd
  · exact he

/-! ### The obligations -/

/-- Settles O15: the record of `loadCount_eq`, its reload value written as a number. -/
theorem loadCountWritesTheLoadFields : Obligations.LoadCountWritesTheLoadFields := by
  intro cfg ch v now
  rw [loadCount_eq, reloadValue_eq_ite_toNat]
  rfl

/-- Settles O16: the latch pending, else the level defined, else the level's fault. -/
theorem statusLatchPacksTheStatusByte : Obligations.StatusLatchPacksTheStatusByte := by
  intro cfg ch now
  refine ⟨latchStatus_of_pending cfg ch now, fun h hd => ?_, fun h hu => ?_⟩
  · obtain ⟨lvl, hl⟩ := outputLevel_of_not_levelUndefined cfg ch now hd
    exact ⟨lvl, hl, latchStatus_of_level cfg ch now h hl⟩
  · exact latchStatus_of_fault cfg ch now h (outputLevel_of_levelUndefined cfg ch now hu)

end Sys2Proof.Proofs.ChannelOps
end

