-- ==== Sys2Proof/Proofs/Scheduler.lean ====
section
/-! PROOFS. The scheduler (43_scheduler.md): the channels that have no edge detector (R204). -/

namespace Sys2Proof.Proofs.Scheduler

open Sys2Proof Sys2Proof.Machine Sys2Proof.Claims

/-! ### Replacing one channel record -/

theorem setCh_comm (s : State) {c d : Chan} (h : c ≠ d) (x y : Channel) :
    (s.setCh c x).setCh d y = (s.setCh d y).setCh c x := by
  cases c <;> cases d <;> first | rfl | exact absurd rfl h

theorem clearOutputs_setCh (s : State) (c : Chan) (x : Channel) :
    (s.setCh c x).clearOutputs = s.clearOutputs.setCh c x := by
  cases c <;> rfl

theorem enterFault_setCh (s : State) (c : Chan) (x : Channel) (r : Fault) :
    (s.setCh c x).enterFault r = (s.enterFault r).setCh c x := by
  cases c <;> rfl

theorem returnByte_setCh (s : State) (c : Chan) (x : Channel) (v : Byte) :
    (s.setCh c x).returnByte v = (s.returnByte v).setCh c x := by
  cases c <;> rfl

theorem emitIf_setCh (s : State) (c : Chan) (x : Channel) (p : Bool) (e : Event) :
    (s.setCh c x).emitIf p e = (s.emitIf p e).setCh c x := by
  cases p <;> cases c <;> rfl

/-! ### The bodies that work on one channel record -/

/-- One channel's turn in READBACK, on its record alone. -/
def turnChannel (mask : BitVec 3) (cnt sta : Bool) (d : Chan) (cfg : Config) (ch : Channel) (now : Nat) :
    Except Fault Channel :=
  if maskBit mask d then
    let counted := if cnt then latchCounter cfg ch now else ch
    if sta then latchStatus cfg counted now else .ok counted
  else .ok ch

theorem readbackTurn_eq_map (mask : BitVec 3) (cnt sta : Bool) (d : Chan) (s : State) :
    readbackTurn mask cnt sta d s = (turnChannel mask cnt sta d s.cfg (s.ch d) s.now).map (s.setCh d) := by
  unfold readbackTurn turnChannel
  cases maskBit mask d with
  | false => simp [Except.map]
  | true =>
    cases sta with
    | false => rfl
    | true =>
      cases hl : latchStatus s.cfg (if cnt then latchCounter s.cfg (s.ch d) s.now else s.ch d) s.now <;>
        simp [hl, Except.map]

theorem readbackBody_eq_bind (mask : BitVec 3) (cnt sta : Bool) (s : State) :
    readbackBody mask cnt sta s =
      readbackTurn mask cnt sta .c0 s >>= readbackTurn mask cnt sta .c1 >>= readbackTurn mask cnt sta .c2 := by
  unfold readbackBody
  cases readbackTurn mask cnt sta .c0 s with
  | error r => rfl
  | ok s0 => cases h1 : readbackTurn mask cnt sta .c1 s0 <;> simp [h1, bind, Except.bind]

theorem outdBody_eq_map (d : Chan) (b : Byte) (s : State) :
    outdBody d b s = (writeData s.cfg (s.ch d) b s.now).map (s.setCh d) := by
  unfold outdBody
  cases writeData s.cfg (s.ch d) b s.now <;> rfl

theorem indBody_eq_map (d : Chan) (s : State) :
    indBody d s = (readData s.cfg (s.ch d) s.now).map (fun p => (s.setCh d p.1).returnByte p.2) := by
  unfold indBody
  cases readData s.cfg (s.ch d) s.now <;> rfl

/-! ### Bodies that ignore a channel -/

/-- The body neither reads nor writes the channel: replacing its record before the body or after it is the same. -/
def IgnoresChannel (c : Chan) (body : State → Except Fault State) : Prop :=
  ∀ s x, body (s.setCh c x) = (body s).map (·.setCh c x)

theorem IgnoresChannel.ch_eq {c : Chan} {body : State → Except Fault State} (h : IgnoresChannel c body) {s t : State}
    (ht : body s = .ok t) : t.ch c = s.ch c := by
  have hself := h s (s.ch c)
  rw [State.setCh_ch, ht] at hself
  injection hself with e
  rw [e, State.ch_setCh_same]

theorem IgnoresChannel.runOp_setCh {c : Chan} {body : State → Except Fault State} (h : IgnoresChannel c body)
    {s t : State} (ht : runOp body s = .next t) (x : Channel) : runOp body (s.setCh c x) = .next (t.setCh c x) := by
  have hx := h s.clearOutputs x
  rw [← clearOutputs_setCh] at hx
  obtain hok | ⟨r, hr, rfl⟩ := runOp_next.1 ht
  · exact runOp_of_ok (by rw [hx, hok]; rfl)
  · rw [← enterFault_setCh]
    exact runOp_of_error (by rw [hx, hr]; rfl)

theorem latchBody_ignoresChannel {c d : Chan} (h : c ≠ d) : IgnoresChannel c (latchBody d) := by
  intro s x
  simp [latchBody, h.symm, setCh_comm s h, Except.map]

theorem modesetBody_ignoresChannel {c d : Chan} (h : c ≠ d) (a : Access) (m : BitVec 3) (b : Bool) :
    IgnoresChannel c (modesetBody d a m b) := by
  intro s x
  simp [modesetBody, h.symm, setCh_comm s h, emitIf_setCh, Except.map]

theorem outdBody_ignoresChannel {c d : Chan} (h : c ≠ d) (b : Byte) : IgnoresChannel c (outdBody d b) := by
  intro s x
  simp only [outdBody_eq_map, State.setCh_cfg, State.setCh_now, State.ch_setCh_other s c d x h.symm]
  cases writeData s.cfg (s.ch d) b s.now <;> simp [setCh_comm s h, Except.map]

theorem indBody_ignoresChannel {c d : Chan} (h : c ≠ d) : IgnoresChannel c (indBody d) := by
  intro s x
  simp only [indBody_eq_map, State.setCh_cfg, State.setCh_now, State.ch_setCh_other s c d x h.symm]
  cases readData s.cfg (s.ch d) s.now <;> simp [setCh_comm s h, returnByte_setCh, Except.map]

theorem readbackTurn_ignoresChannel {c d : Chan} (h : c ≠ d) (mask : BitVec 3) (cnt sta : Bool) :
    IgnoresChannel c (readbackTurn mask cnt sta d) := by
  intro s x
  simp only [readbackTurn_eq_map, State.setCh_cfg, State.setCh_now, State.ch_setCh_other s c d x h.symm]
  cases turnChannel mask cnt sta d s.cfg (s.ch d) s.now <;> simp [setCh_comm s h, Except.map]

/-- QUERY reads and writes channel 0 only (R204). -/
theorem queryBody_ignoresChannel {c : Chan} (h : c ≠ .c0) : IgnoresChannel c queryBody := by
  intro s x
  have h0 : (s.setCh c x).ch0 = s.ch0 := State.ch_setCh_other s c .c0 x h.symm
  simp only [queryBody, h0, State.setCh_cfg, State.setCh_now]
  cases c with
  | c0 => exact absurd rfl h
  | c1 => split_ifs <;> rfl
  | c2 => split_ifs <;> rfl

/-! ### Channel operations and `last_count` -/

def setLastCount (k : Nat) (ch : Channel) : Channel := { ch with lastCount := k }

theorem withLastCount_eq (c : Chan) (k : Nat) (s : State) :
    withLastCount c k s = s.setCh c (setLastCount k (s.ch c)) := rfl

theorem latchCounter_setLastCount (cfg : Config) (ch : Channel) (now k : Nat) :
    latchCounter cfg (setLastCount k ch) now = setLastCount k (latchCounter cfg ch now) := by
  unfold latchCounter
  rw [apply_ite (setLastCount k)]
  rfl

theorem latchStatus_setLastCount (cfg : Config) (ch : Channel) (now k : Nat) :
    latchStatus cfg (setLastCount k ch) now = (latchStatus cfg ch now).map (setLastCount k) := by
  have hl : outputLevel cfg (setLastCount k ch) now = outputLevel cfg ch now := outputLevel_congr cfg now rfl rfl rfl
  unfold latchStatus
  rw [hl]
  cases hs : ch.stPend with
  | true => simp [setLastCount, hs, Except.map]
  | false => cases outputLevel cfg ch now <;> simp [setLastCount, hs, Except.map]

theorem turnChannel_setLastCount (mask : BitVec 3) (cnt sta : Bool) (d : Chan) (cfg : Config) (ch : Channel)
    (now k : Nat) :
    turnChannel mask cnt sta d cfg (setLastCount k ch) now =
      (turnChannel mask cnt sta d cfg ch now).map (setLastCount k) := by
  unfold turnChannel
  rw [latchCounter_setLastCount, ← apply_ite (setLastCount k)]
  cases maskBit mask d with
  | false => rfl
  | true =>
    cases sta with
    | false => rfl
    | true => exact latchStatus_setLastCount cfg _ now k

/-- A load writes `last_count`, so what it held before is lost; the other writes carry it along. -/
theorem writeData_setLastCount (cfg : Config) (ch : Channel) (b : Byte) (now k : Nat) :
    ∃ k', writeData cfg (setLastCount k ch) b now = (writeData cfg ch b now).map (setLastCount k') := by
  unfold writeData
  have hw : (setLastCount k ch).wcursor = ch.wcursor := rfl
  rw [hw]
  cases ch.wcursor with
  | lo => exact ⟨_, rfl⟩
  | hi => exact ⟨_, rfl⟩
  | whi => exact ⟨_, rfl⟩
  | wlo => exact ⟨k, rfl⟩
  | unprog => exact ⟨k, rfl⟩

theorem readCounterLatch_setLastCount (ch : Channel) (k : Nat) :
    readCounterLatch (setLastCount k ch) = (readCounterLatch ch).map (Prod.map (setLastCount k) id) := by
  unfold readCounterLatch
  have hm : (setLastCount k ch).ctMode = ch.ctMode := rfl
  have hh : (setLastCount k ch).ctHi = ch.ctHi := rfl
  rw [hm, hh]
  split
  case h_4 => split <;> rfl
  all_goals rfl

theorem readLive_setLastCount (cfg : Config) (ch : Channel) (now k : Nat) :
    readLive cfg (setLastCount k ch) now = (readLive cfg ch now).map (Prod.map (setLastCount k) id) := by
  unfold readLive
  have hr : (setLastCount k ch).rcursor = ch.rcursor := rfl
  rw [hr]
  cases ch.rcursor <;> rfl

theorem readData_setLastCount (cfg : Config) (ch : Channel) (now k : Nat) :
    readData cfg (setLastCount k ch) now = (readData cfg ch now).map (Prod.map (setLastCount k) id) := by
  unfold readData
  have hs : (setLastCount k ch).stPend = ch.stPend := rfl
  have hc : (setLastCount k ch).ctPend = ch.ctPend := rfl
  rw [hs, hc, readCounterLatch_setLastCount, readLive_setLastCount]
  split_ifs <;> rfl

/-! ### Bodies that ignore `last_count` -/

/-- The body reads no `last_count` of the channel: replacing it before the body changes that field at most. -/
def IgnoresLastCount (c : Chan) (body : State → Except Fault State) : Prop :=
  ∀ k s, ∃ k', body (withLastCount c k s) = (body s).map (withLastCount c k')

theorem IgnoresChannel.ignoresLastCount {c : Chan} {body : State → Except Fault State} (h : IgnoresChannel c body) :
    IgnoresLastCount c body := by
  intro k s
  refine ⟨k, ?_⟩
  rw [withLastCount_eq, h]
  cases ht : body s with
  | error r => rfl
  | ok t => rw [Except.map, Except.map, withLastCount_eq, h.ch_eq ht]

theorem IgnoresLastCount.bind {c : Chan} {f g : State → Except Fault State} (hf : IgnoresLastCount c f)
    (hg : IgnoresLastCount c g) : IgnoresLastCount c (fun s => f s >>= g) := by
  intro k s
  obtain ⟨j, hj⟩ := hf k s
  beta_reduce
  rw [hj]
  cases f s with
  | error r => exact ⟨k, rfl⟩
  | ok u => exact hg j u

theorem IgnoresLastCount.runOp_withLastCount {c : Chan} {body : State → Except Fault State}
    (h : IgnoresLastCount c body) {s t : State} (ht : runOp body s = .next t) (k : Nat) :
    ∃ k', runOp body (withLastCount c k s) = .next (withLastCount c k' t) := by
  obtain ⟨k', hk⟩ := h k s.clearOutputs
  have hclear : withLastCount c k s.clearOutputs = (withLastCount c k s).clearOutputs :=
    (clearOutputs_setCh s c _).symm
  rw [hclear] at hk
  obtain hok | ⟨r, hr, rfl⟩ := runOp_next.1 ht
  · exact ⟨k', runOp_of_ok (by rw [hk, hok]; rfl)⟩
  · have hfault : withLastCount c k (s.enterFault r) = (withLastCount c k s).enterFault r :=
      (enterFault_setCh s c _ r).symm
    exact ⟨k, hfault ▸ runOp_of_error (by rw [hk, hr]; rfl)⟩

theorem latchBody_ignoresLastCount (c d : Chan) : IgnoresLastCount c (latchBody d) := by
  obtain rfl | h := eq_or_ne c d
  · intro k s
    exact ⟨k, by simp [latchBody, withLastCount_eq, latchCounter_setLastCount, Except.map]⟩
  · exact (latchBody_ignoresChannel h).ignoresLastCount

theorem modesetBody_ignoresLastCount (c d : Chan) (a : Access) (m : BitVec 3) (b : Bool) :
    IgnoresLastCount c (modesetBody d a m b) := by
  obtain rfl | h := eq_or_ne c d
  · intro k s
    exact ⟨k, by
      simp [modesetBody, withLastCount_eq, configureChannel, setLastCount, emitIf_setCh, Except.map]⟩
  · exact (modesetBody_ignoresChannel h a m b).ignoresLastCount

theorem outdBody_ignoresLastCount (c d : Chan) (b : Byte) : IgnoresLastCount c (outdBody d b) := by
  obtain rfl | h := eq_or_ne c d
  · intro k s
    obtain ⟨k', hk⟩ := writeData_setLastCount s.cfg (s.ch c) b s.now k
    refine ⟨k', ?_⟩
    simp only [outdBody_eq_map, withLastCount_eq, State.setCh_cfg, State.setCh_now, State.ch_setCh_same, hk]
    cases writeData s.cfg (s.ch c) b s.now <;> simp [withLastCount_eq, Except.map]
  · exact (outdBody_ignoresChannel h b).ignoresLastCount

theorem indBody_ignoresLastCount (c d : Chan) : IgnoresLastCount c (indBody d) := by
  obtain rfl | h := eq_or_ne c d
  · intro k s
    refine ⟨k, ?_⟩
    simp only [indBody_eq_map, withLastCount_eq, State.setCh_cfg, State.setCh_now, State.ch_setCh_same,
      readData_setLastCount]
    cases readData s.cfg (s.ch c) s.now <;> simp [withLastCount_eq, returnByte_setCh, Except.map]
  · exact (indBody_ignoresChannel h).ignoresLastCount

theorem readbackTurn_ignoresLastCount (c d : Chan) (mask : BitVec 3) (cnt sta : Bool) :
    IgnoresLastCount c (readbackTurn mask cnt sta d) := by
  obtain rfl | h := eq_or_ne c d
  · intro k s
    refine ⟨k, ?_⟩
    simp only [readbackTurn_eq_map, withLastCount_eq, State.setCh_cfg, State.setCh_now, State.ch_setCh_same,
      turnChannel_setLastCount]
    cases turnChannel mask cnt sta c s.cfg (s.ch c) s.now <;> simp [withLastCount_eq, Except.map]
  · exact (readbackTurn_ignoresChannel h mask cnt sta).ignoresLastCount

theorem readbackBody_ignoresLastCount (c : Chan) (mask : BitVec 3) (cnt sta : Bool) :
    IgnoresLastCount c (readbackBody mask cnt sta) := by
  have turn := fun d => readbackTurn_ignoresLastCount c d mask cnt sta
  rw [funext (readbackBody_eq_bind mask cnt sta)]
  exact ((turn .c0).bind (turn .c1)).bind (turn .c2)

theorem incmdBody_ignoresLastCount (c : Chan) : IgnoresLastCount c incmdBody :=
  fun k _ => ⟨k, rfl⟩

theorem inauxBody_ignoresLastCount (c : Chan) : IgnoresLastCount c inauxBody := by
  intro k s
  refine ⟨k, ?_⟩
  have hl : outputLevel s.cfg (withLastCount c k s).ch2 s.now = outputLevel s.cfg s.ch2 s.now := by
    cases c <;> exact outputLevel_congr s.cfg s.now rfl rfl rfl
  simp only [inauxBody, withLastCount_eq, State.setCh_cfg, State.setCh_now, State.setCh_auxFf] at hl ⊢
  rw [hl]
  cases outputLevel s.cfg s.ch2 s.now with
  | error r => rfl
  | ok lvl => cases c <;> rfl

theorem resetBody_ignoresLastCount (c : Chan) : IgnoresLastCount c resetBody := by
  intro k s
  exact ⟨0, by cases c <;> rfl⟩

/-- No operation reads `last_count` of channel 1 or 2 (R204). -/
theorem bodyOf_ignoresLastCount {c : Chan} (hc : c ≠ .c0) (i : Instr) : IgnoresLastCount c (bodyOf i) := by
  cases i with
  | latch0 | latch1 | latch2 => exact latchBody_ignoresLastCount c _
  | modesetLo0 m b | modesetLo1 m b | modesetLo2 m b | modesetHi0 m b | modesetHi1 m b | modesetHi2 m b
  | modesetWord0 m b | modesetWord1 m b | modesetWord2 m b => exact modesetBody_ignoresLastCount c _ _ m b
  | readback mask cnt sta => exact readbackBody_ignoresLastCount c mask cnt sta
  | outd0 b | outd1 b | outd2 b => exact outdBody_ignoresLastCount c _ b
  | ind0 | ind1 | ind2 => exact indBody_ignoresLastCount c _
  | incmd => exact incmdBody_ignoresLastCount c
  | inaux => exact inauxBody_ignoresLastCount c
  | query => exact (queryBody_ignoresChannel hc).ignoresLastCount
  | reset => exact resetBody_ignoresLastCount c

theorem exec_withLastCount {c : Chan} (hc : c ≠ .c0) {i : Instr} {s t : State} (h : exec i s = .next t) (k : Nat) :
    ∃ k', exec i (withLastCount c k s) = .next (withLastCount c k' t) := by
  rw [exec_eq_runOp] at h ⊢
  exact (bodyOf_ignoresLastCount hc i).runOp_withLastCount h k

/-! ### Who makes interrupt calls -/

/-- The channel an operation names; READBACK selects channels by its mask and names none. -/
def namedChannel (i : Instr) : Option Chan :=
  match i with
  | .latch0 _ | .modesetLo0 _ _ | .modesetHi0 _ _ | .modesetWord0 _ _ | .outd0 _ | .ind0 => some .c0
  | .latch1 _ | .modesetLo1 _ _ | .modesetHi1 _ _ | .modesetWord1 _ _ | .outd1 _ | .ind1 => some .c1
  | .latch2 _ | .modesetLo2 _ _ | .modesetHi2 _ _ | .modesetWord2 _ _ | .outd2 _ | .ind2 => some .c2
  | .readback _ _ _ _ | .incmd | .inaux | .query | .reset => none

@[simp] theorem namedChannel_latch (c : Chan) (g : BitVec 4) : namedChannel (.latch c g) = some c := by
  cases c <;> rfl

@[simp] theorem namedChannel_modeset (c : Chan) (a : Access) (m : BitVec 3) (b : Bool) :
    namedChannel (.modeset c a m b) = some c := by
  cases a <;> cases c <;> rfl

@[simp] theorem namedChannel_outd (c : Chan) (b : Byte) : namedChannel (.outd c b) = some c := by
  cases c <;> rfl

@[simp] theorem namedChannel_ind (c : Chan) : namedChannel (.ind c) = some c := by
  cases c <;> rfl

theorem mayAddress_cases {i : Instr} {c : Chan} (h : mayAddress i c) :
    namedChannel i = some c ∨ ∃ mask cnt sta spare, i = .readback mask cnt sta spare := by
  obtain ⟨g, rfl⟩ | ⟨a, m, b, rfl⟩ | ⟨b, rfl⟩ | rfl | h := h
  · simp
  · simp
  · simp
  · simp
  · exact .inr h

/-- An operation that makes an interrupt call is a QUERY or names channel 0 (R166, R200). -/
theorem interrupts_eq_nil_or {i : Instr} {s t : State} (h : exec i s = .next t) :
    interrupts t.events = [] ∨ i = .query ∨ namedChannel i = some .c0 := by
  obtain ⟨r, -, rfl⟩ | ⟨c, g, -, rfl⟩ | ⟨c, a, m, b, rfl, rfl⟩ | ⟨mask, cnt, sta, spare, y0, y1, y2, -, rfl, -⟩ |
    ⟨c, b, x, -, -, rfl⟩ | ⟨c, x, v, -, -, rfl⟩ | ⟨lvl, -, -, rfl⟩ | ⟨hq, -⟩ | ⟨-, rfl⟩ := exec_next_cases h
  · exact .inl rfl
  · exact .inl (by simp [interrupts])
  · obtain rfl | hc := eq_or_ne c .c0
    · exact .inr (.inr (namedChannel_modeset _ a m b))
    · exact .inl (by cases b <;> simp [mode2Quirk, hc, interrupts])
  · exact .inl rfl
  · exact .inl (by simp [interrupts])
  · exact .inl (by simp [interrupts])
  · exact .inl rfl
  · exact .inr (.inl hq)
  · exact .inl rfl

theorem interrupts_eq_nil_of_mayAddress {i : Instr} {c : Chan} {s t : State} (hc : c ≠ .c0) (h : exec i s = .next t)
    (ha : mayAddress i c) : interrupts t.events = [] := by
  obtain hnil | hq | h0 := interrupts_eq_nil_or h
  · exact hnil
  · obtain hi | ⟨mask, cnt, sta, spare, rfl⟩ := mayAddress_cases ha
    · rw [hq] at hi
      cases hi
    · cases hq
  · obtain hi | ⟨mask, cnt, sta, spare, rfl⟩ := mayAddress_cases ha
    · exact absurd (Option.some.inj (hi.symm.trans h0)) hc
    · cases h0

/-! ### Who writes `running` and `last_count` -/

/-- The edge detector's two fields of a channel are unchanged. -/
def KeepsDetector (x y : Channel) : Prop := y.running = x.running ∧ y.lastCount = x.lastCount

theorem keepsDetector_setCh (s : State) (c d : Chan) {x : Channel} (h : d = c → KeepsDetector (s.ch c) x) :
    KeepsDetector (s.ch c) ((s.setCh d x).ch c) := by
  obtain rfl | hd := eq_or_ne d c
  · simpa using h rfl
  · rw [State.ch_setCh_other s d c x hd.symm]
    exact ⟨rfl, rfl⟩

theorem latchCounter_keepsDetector (cfg : Config) (ch : Channel) (now : Nat) :
    KeepsDetector ch (latchCounter cfg ch now) := by
  obtain ⟨-, h⟩ | ⟨-, h⟩ := latchCounter_cases cfg ch now <;> rw [h] <;> exact ⟨rfl, rfl⟩

theorem latchStatus_keepsDetector {cfg : Config} {ch x : Channel} {now : Nat} (h : latchStatus cfg ch now = .ok x) :
    KeepsDetector ch x := by
  obtain ⟨-, e⟩ | ⟨-, l, -, e⟩ | ⟨-, r, -, e⟩ := latchStatus_cases cfg ch now <;> rw [e] at h <;> cases h <;>
    exact ⟨rfl, rfl⟩

theorem readData_keepsDetector {cfg : Config} {ch x : Channel} {now : Nat} {v : Byte}
    (h : readData cfg ch now = .ok (x, v)) : KeepsDetector ch x := by
  obtain rfl | rfl | ⟨rfl, -⟩ | rfl | rfl | ⟨rfl, -⟩ | ⟨rfl, -⟩ := readData_ok h <;> exact ⟨rfl, rfl⟩

theorem turnResult_keepsDetector {cfg : Config} {mask : BitVec 3} {cnt sta : Bool} {now : Nat} {c : Chan}
    {x y : Channel} (h : TurnResult cfg mask cnt sta now c x y) : KeepsDetector x y := by
  have counted : KeepsDetector x (if cnt then latchCounter cfg x now else x) := by
    split
    · exact latchCounter_keepsDetector cfg x now
    · exact ⟨rfl, rfl⟩
  obtain ⟨-, rfl⟩ | ⟨-, ⟨-, rfl⟩ | ⟨-, hl⟩⟩ := h
  · exact ⟨rfl, rfl⟩
  · exact counted
  · obtain ⟨hr, hc⟩ := latchStatus_keepsDetector hl
    exact ⟨hr.trans counted.1, hc.trans counted.2⟩

/-- A data byte that completes a load sets `running` (R140, R169). -/
theorem writeData_of_completesLoad {ch : Channel} {b : Byte} {n : Nat} (h : completesLoad ch b n) (cfg : Config)
    (now : Nat) : ∃ x, writeData cfg ch b now = .ok x ∧ x.running = true := by
  unfold writeData
  obtain ⟨hw, -⟩ | ⟨hw, -⟩ | ⟨hw, -⟩ := h <;> rw [hw] <;> exact ⟨_, rfl, rfl⟩

theorem writeData_keepsDetector {cfg : Config} {ch x : Channel} {b : Byte} {now : Nat}
    (h : writeData cfg ch b now = .ok x) (hload : ∀ n, ¬ completesLoad ch b n) : KeepsDetector ch x := by
  obtain ⟨v, k, -, hw⟩ | ⟨-, e⟩ | ⟨-, e⟩ := writeData_cases cfg ch b now
  · obtain ⟨hw, -⟩ | ⟨hw, -⟩ | ⟨hw, -⟩ := hw
    · exact absurd (.inl ⟨hw, rfl⟩) (hload _)
    · exact absurd (.inr (.inl ⟨hw, rfl⟩)) (hload _)
    · exact absurd (.inr (.inr ⟨hw, rfl⟩)) (hload _)
  · rw [e] at h
    cases h
    exact ⟨rfl, rfl⟩
  · rw [e] at h
    cases h

/-- A completing load of a channel sets its `running` (R140). -/
theorem exec_outd_running {c : Chan} {b : Byte} {n : Nat} {s t : State} (h : exec (.outd c b) s = .next t)
    (hl : completesLoad (s.ch c) b n) : (t.ch c).running = true := by
  obtain ⟨x, hx, hrun⟩ := writeData_of_completesLoad hl s.cfg s.now
  have hbody : outdBody c b s.clearOutputs = .ok (s.clearOutputs.setCh c x) := by
    simp [outdBody_eq_map, hx, Except.map]
  rw [exec_outd, runOp_of_ok hbody] at h
  cases h
  rw [State.ch_setCh_same, hrun]

/-- Of all operations but RESET, only a completing load of channel 1 or 2 writes its `running` or `last_count`. -/
theorem exec_keepsDetector {c : Chan} {i : Instr} {s t : State} (hc : c ≠ .c0) (h : exec i s = .next t)
    (hi : i ≠ .reset) (hload : ∀ b n, i = .outd c b → ¬ completesLoad (s.ch c) b n) :
    KeepsDetector (s.ch c) (t.ch c) := by
  obtain ⟨r, -, rfl⟩ | ⟨d, g, -, rfl⟩ | ⟨d, a, m, b, -, rfl⟩ | ⟨mask, cnt, sta, spare, y0, y1, y2, -, rfl, -, h1, h2⟩ |
    ⟨d, b, x, rfl, hx, rfl⟩ | ⟨d, x, v, -, hx, rfl⟩ | ⟨lvl, -, -, rfl⟩ | ⟨-, hq⟩ | ⟨rfl, -⟩ := exec_next_cases h
  · exact ⟨rfl, rfl⟩
  · refine keepsDetector_setCh s.clearOutputs c d ?_
    rintro rfl
    exact latchCounter_keepsDetector s.cfg (s.ch d) s.now
  · rw [State.emitIf_ch, State.emitIf_ch]
    refine keepsDetector_setCh s.clearOutputs c d ?_
    rintro rfl
    exact ⟨rfl, rfl⟩
  · cases c with
    | c0 => exact absurd rfl hc
    | c1 => exact turnResult_keepsDetector h1
    | c2 => exact turnResult_keepsDetector h2
  · refine keepsDetector_setCh s.clearOutputs c d ?_
    rintro rfl
    exact writeData_keepsDetector hx fun n => hload b n rfl
  · rw [State.returnByte_ch]
    refine keepsDetector_setCh s.clearOutputs c d ?_
    rintro rfl
    exact readData_keepsDetector hx
  · exact ⟨by cases c <;> rfl, by cases c <;> rfl⟩
  · rw [(queryBody_ignoresChannel hc).ch_eq hq]
    exact ⟨rfl, rfl⟩
  · exact absurd rfl hi

/-- Only RESET clears `running` of channel 1 or 2 (R204, R39). -/
theorem exec_running {c : Chan} {i : Instr} {s t : State} (hc : c ≠ .c0) (h : exec i s = .next t) (hi : i ≠ .reset)
    (hr : (s.ch c).running = true) : (t.ch c).running = true := by
  by_cases hload : ∃ b n, i = .outd c b ∧ completesLoad (s.ch c) b n
  · obtain ⟨b, n, rfl, hl⟩ := hload
    exact exec_outd_running h hl
  · obtain ⟨hrun, -⟩ := exec_keepsDetector hc h hi fun b n hb hl => hload ⟨b, n, hb, hl⟩
    exact hrun.trans hr

theorem exec_reset_running (c : Chan) {s t : State} (h : exec .reset s = .next t) : (t.ch c).running = false := by
  cases h
  cases c <;> rfl

/-! ### The obligation -/

/-- Settles O51: QUERY ignores the channel; interrupt calls belong to QUERY and channel 0; only a load and RESET write
the channel's detector fields; and every body ignores its `last_count`. -/
theorem onlyChannel0HasAnEdgeDetector : Obligations.OnlyChannel0HasAnEdgeDetector := by
  intro c i s t hc h
  refine ⟨?_, interrupts_eq_nil_of_mayAddress hc h, ?_, exec_running hc h, ?_, ?_, exec_withLastCount hc h⟩
  · rintro x rfl
    exact (queryBody_ignoresChannel hc).runOp_setCh h x
  · rintro b n rfl hl
    exact exec_outd_running h hl
  · rintro rfl
    exact exec_reset_running c h
  · intro hi hload
    exact (exec_keepsDetector hc h hi hload).2

end Sys2Proof.Proofs.Scheduler
end

section
/-! PROOFS. The exceptions (60_exceptions.md): the sources of the interrupt calls (R230), and the BCD report (R224). -/

namespace Sys2Proof.Proofs.Exceptions

open Sys2Proof Sys2Proof.Machine Sys2Proof.Claims

/-! ### What the operations emit -/

/-- A MODESET never faults: its configuration write, its BCD report and its quirk always come about (R162). -/
theorem exec_modeset_next {c : Chan} {a : Access} {m : BitVec 3} {b : Bool} {s t : State}
    (h : exec (.modeset c a m b) s = .next t) :
    t = ((s.clearOutputs.setCh c (configureChannel a m b (s.ch c))).emitIf b .bcdUnsupported).emitIf
      (mode2Quirk c m) .raise := by
  rw [exec_modeset] at h
  cases h
  rfl

/-- QUERY makes the two interrupt calls when it sees a wrap, one-shot or not, and emits nothing else (R200). -/
theorem exec_query_events {s t : State} (h : exec .query s = .next t) :
    t.events = if wrapSeen s then [.lower, .raise] else [] := by
  have he : execQuery s = .next t := h
  obtain ⟨hr, hb⟩ | ⟨hr, hw, -, hb⟩ | ⟨hr, hw, -, hb⟩ | ⟨-, hw, hb⟩ := queryBody_cases s.clearOutputs <;>
    rw [execQuery, runOp_of_ok hb] at he <;> cases he
  · exact (if_neg fun hs : wrapSeen s => Bool.false_ne_true (hr.symm.trans hs.1)).symm
  · exact (if_pos (c := wrapSeen s) ⟨hr, hw⟩).symm
  · exact (if_pos (c := wrapSeen s) ⟨hr, hw⟩).symm
  · exact (if_neg fun hs : wrapSeen s => hw hs.2).symm

/-- QUERY and MODESET are the only operations that emit anything. -/
theorem emitter_or_events_eq_nil {i : Instr} {s t : State} (h : exec i s = .next t) :
    i = .query ∨ (∃ c a m b, i = .modeset c a m b) ∨ t.events = [] := by
  obtain ⟨r, -, rfl⟩ | ⟨c, g, -, rfl⟩ | ⟨c, a, m, b, hm, -⟩ | ⟨mask, cnt, sta, spare, y0, y1, y2, -, rfl, -⟩ |
    ⟨c, b, x, -, -, rfl⟩ | ⟨c, x, v, -, -, rfl⟩ | ⟨lvl, -, -, rfl⟩ | ⟨hq, -⟩ | ⟨-, rfl⟩ := exec_next_cases h
  · exact .inr (.inr rfl)
  · exact .inr (.inr (by simp))
  · exact .inr (.inl ⟨c, a, m, b, hm⟩)
  · exact .inr (.inr rfl)
  · exact .inr (.inr (by simp))
  · exact .inr (.inr (by simp))
  · exact .inr (.inr rfl)
  · exact .inl hq
  · exact .inr (.inr rfl)

/-! ### Interrupt calls (R230) -/

/-- A MODESET's only interrupt call is the mode-2 quirk's RAISE: the BCD report is none (R166). -/
theorem exec_modeset_interrupts {c : Chan} {a : Access} {m : BitVec 3} {b : Bool} {s t : State}
    (h : exec (.modeset c a m b) s = .next t) :
    interrupts t.events = if mode2Quirk c m then [.raise] else [] := by
  rw [exec_modeset_next h]
  cases b <;> cases mode2Quirk c m <;> simp [interrupts]

theorem mode2Quirk_eq_true_iff {c : Chan} {m : BitVec 3} : mode2Quirk c m = true ↔ c = .c0 ∧ m = 2 := by
  simp [mode2Quirk]

/-- Settles O39: of the two emitters, QUERY calls exactly on a wrap and MODESET exactly on its quirk. -/
theorem interruptsHaveTwoSources : Obligations.InterruptsHaveTwoSources := by
  intro i s t h
  refine ⟨?_, ?_, fun hwrap hquirk => ?_⟩
  · rintro rfl hw
    rw [exec_query_events h, if_pos hw]
    rfl
  · rintro ⟨a, b, rfl⟩
    rw [exec_modeset_interrupts h, if_pos (mode2Quirk_eq_true_iff.2 ⟨rfl, rfl⟩)]
  · obtain rfl | ⟨c, a, m, b, rfl⟩ | hnil := emitter_or_events_eq_nil h
    · have hno : ¬ wrapSeen s := fun hw => hwrap ⟨rfl, hw⟩
      rw [exec_query_events h, if_neg hno]
      rfl
    · have hno : ¬ mode2Quirk c m = true := by
        rw [mode2Quirk_eq_true_iff]
        rintro ⟨rfl, rfl⟩
        exact hquirk ⟨a, b, rfl⟩
      rw [exec_modeset_interrupts h, if_neg hno]
    · rw [hnil]
      rfl

/-! ### The BCD report (R224) -/

theorem exists_modeset_of_bcdUnsupported_mem {i : Instr} {s t : State} (h : exec i s = .next t)
    (hmem : .bcdUnsupported ∈ t.events) : ∃ c a m b, i = .modeset c a m b := by
  obtain rfl | hm | hnil := emitter_or_events_eq_nil h
  · rw [exec_query_events h] at hmem
    split at hmem <;> simp at hmem
  · exact hm
  · simp [hnil] at hmem

/-- The count does not know the mode or the BCD flag: a channel counts on through its own MODESET. -/
theorem liveCount_configureChannel (cfg : Config) (a : Access) (m : BitVec 3) (b : Bool) (ch : Channel) (now : Nat) :
    liveCount cfg (configureChannel a m b ch) now = liveCount cfg ch now :=
  liveCount_congr cfg now rfl rfl

/-- Settles O52: only a MODESET reports, and it writes neither `faulted` nor a field that a live count reads. -/
theorem bcdReportIsNotAFault : Obligations.BcdReportIsNotAFault := by
  intro i s t h hmem
  obtain ⟨d, a, m, b, rfl⟩ := exists_modeset_of_bcdUnsupported_mem h hmem
  obtain rfl := exec_modeset_next h
  refine ⟨by simp, fun c later => ?_⟩
  obtain rfl | hc := eq_or_ne c d
  · simp [liveCount_configureChannel]
  · simp [hc]

end Sys2Proof.Proofs.Exceptions
end

section
/-! PROOFS. The encoding (30_encoding.md): the word and the command byte by their fields, and the two round trips. -/

namespace Sys2Proof.Proofs.Encoding

open Sys2Proof Sys2Proof.Machine

/-! ### A word by its fields (R80) -/

/-- The word with the given fields. -/
def wordOf (op : BitVec 3) (sel : BitVec 2) (d : Byte) : TWord := op ++ sel ++ d

theorem toNat_wordOf (op : BitVec 3) (sel : BitVec 2) (d : Byte) :
    (wordOf op sel d).toNat = 1024 * op.toNat + 256 * sel.toNat + d.toNat := by
  rw [wordOf, BitVec.toNat_append, ← Nat.shiftLeft_add_eq_or_of_lt d.isLt, BitVec.toNat_append,
    ← Nat.shiftLeft_add_eq_or_of_lt sel.isLt, Nat.shiftLeft_eq, Nat.shiftLeft_eq]
  omega

theorem extractLsb'_eq_of_toNat {n k : Nat} {t : TWord} {f : BitVec n} (h : t.toNat / 2 ^ k % 2 ^ n = f.toNat) :
    t.extractLsb' k n = f := by
  apply BitVec.eq_of_toNat_eq
  rw [BitVec.extractLsb'_toNat, Nat.shiftRight_eq_div_pow, h]

@[simp] theorem opField_wordOf (op : BitVec 3) (sel : BitVec 2) (d : Byte) : opField (wordOf op sel d) = op :=
  extractLsb'_eq_of_toNat (by rw [toNat_wordOf]; omega)

@[simp] theorem selField_wordOf (op : BitVec 3) (sel : BitVec 2) (d : Byte) : selField (wordOf op sel d) = sel :=
  extractLsb'_eq_of_toNat (by rw [toNat_wordOf]; omega)

@[simp] theorem dataField_wordOf (op : BitVec 3) (sel : BitVec 2) (d : Byte) : dataField (wordOf op sel d) = d :=
  extractLsb'_eq_of_toNat (by rw [toNat_wordOf]; omega)

theorem wordOf_fields (t : TWord) : wordOf (opField t) (selField t) (dataField t) = t := by
  apply BitVec.eq_of_toNat_eq
  simp only [toNat_wordOf, opField, selField, dataField, BitVec.extractLsb'_toNat, Nat.shiftRight_eq_div_pow]
  omega

/-- The number of a channel, as `sel` and `SC` carry it (R81, R84). -/
def chanField (c : Chan) : BitVec 2 :=
  match c with
  | .c0 => 0
  | .c1 => 1
  | .c2 => 2

theorem chanField_or_three (sel : BitVec 2) : (∃ c, sel = chanField c) ∨ sel = 3 := by
  obtain rfl | rfl | rfl | rfl := bitVec2_cases sel
  · exact .inl ⟨.c0, rfl⟩
  · exact .inl ⟨.c1, rfl⟩
  · exact .inl ⟨.c2, rfl⟩
  · exact .inr rfl

theorem opField_cases : ∀ op : BitVec 3, op = 0 ∨ op = 1 ∨ op = 2 ∨ op = 3 ∨ op = 4 ∨ 5 ≤ op.toNat := by decide

/-- The rows of the decoder (R81): every word is of one of these forms. -/
theorem word_cases (t : TWord) :
    (∃ c d, t = wordOf 0 (chanField c) d) ∨ (∃ d, t = wordOf 0 3 d) ∨ (∃ c d, t = wordOf 1 (chanField c) d) ∨
      (∃ d, t = wordOf 1 3 d) ∨ (∃ sel d, t = wordOf 2 sel d) ∨ (∃ sel d, t = wordOf 3 sel d) ∨
      (∃ sel d, t = wordOf 4 sel d) ∨ ∃ op sel d, t = wordOf op sel d ∧ 5 ≤ op.toNat := by
  rw [← wordOf_fields t]
  generalize opField t = op, selField t = sel, dataField t = d
  obtain rfl | rfl | rfl | rfl | rfl | hop := opField_cases op
  · obtain ⟨c, rfl⟩ | rfl := chanField_or_three sel
    · exact .inl ⟨c, d, rfl⟩
    · exact .inr (.inl ⟨d, rfl⟩)
  · obtain ⟨c, rfl⟩ | rfl := chanField_or_three sel
    · exact .inr (.inr (.inl ⟨c, d, rfl⟩))
    · exact .inr (.inr (.inr (.inl ⟨d, rfl⟩)))
  · exact .inr (.inr (.inr (.inr (.inl ⟨sel, d, rfl⟩))))
  · exact .inr (.inr (.inr (.inr (.inr (.inl ⟨sel, d, rfl⟩)))))
  · exact .inr (.inr (.inr (.inr (.inr (.inr (.inl ⟨sel, d, rfl⟩))))))
  · exact .inr (.inr (.inr (.inr (.inr (.inr (.inr ⟨op, sel, d, rfl, hop⟩))))))

theorem decode_outd (cfg : Config) (c : Chan) (d : Byte) :
    decode cfg (wordOf 0 (chanField c) d) = .instr (.outd c d) := by
  cases c <;> simp [decode, chanField]

theorem decode_command (cfg : Config) (d : Byte) : decode cfg (wordOf 0 3 d) = .instr (decodeCommand cfg d) := by
  simp [decode]

theorem decode_ind (cfg : Config) (c : Chan) (d : Byte) :
    decode cfg (wordOf 1 (chanField c) d) = decodeUnused (d == 0) (.ind c) := by
  cases c <;> simp [decode, chanField]

theorem decode_incmd (cfg : Config) (d : Byte) : decode cfg (wordOf 1 3 d) = decodeUnused (d == 0) .incmd := by
  simp [decode]

theorem decode_inaux (cfg : Config) (sel : BitVec 2) (d : Byte) :
    decode cfg (wordOf 2 sel d) = decodeUnused (sel == 0 && d == 0) .inaux := by
  simp [decode]

theorem decode_query (cfg : Config) (sel : BitVec 2) (d : Byte) :
    decode cfg (wordOf 3 sel d) = decodeUnused (sel == 0 && d == 0) .query := by
  simp [decode]

theorem decode_reset (cfg : Config) (sel : BitVec 2) (d : Byte) :
    decode cfg (wordOf 4 sel d) = decodeUnused (sel == 0 && d == 0) .reset := by
  simp [decode]

theorem decode_reserved (cfg : Config) {op : BitVec 3} (sel : BitVec 2) (d : Byte) (h : 5 ≤ op.toNat) :
    decode cfg (wordOf op sel d) = .illegal .reservedOp := by
  simp only [decode, opField_wordOf]
  split
  case h_6 => rfl
  all_goals omega

theorem decodeUnused_eq_instr {clean : Bool} {i j : Instr} (h : decodeUnused clean i = .instr j) :
    clean = true ∧ i = j := by
  cases clean
  · simp [decodeUnused] at h
  · simpa [decodeUnused] using h

theorem zero_of_decodeUnused {sel : BitVec 2} {d : Byte} {i j : Instr}
    (h : decodeUnused (sel == 0 && d == 0) i = .instr j) : sel = 0 ∧ d = 0 ∧ i = j := by
  obtain ⟨hclean, hij⟩ := decodeUnused_eq_instr h
  rw [Bool.and_eq_true, beq_iff_eq, beq_iff_eq] at hclean
  exact ⟨hclean.1, hclean.2, hij⟩

/-! ### A command byte by its fields (R83 to R87) -/

/-- A channel command with selector `c`, field `RW` and the low four bits `x`. -/
def commandByte (c : Chan) (rw : BitVec 2) (x : BitVec 4) : Byte := chanField c ++ rw ++ x

/-- The low four bits of a MODESET byte: `M` and `BCD`. -/
def modeBits (m : BitVec 3) (b : Bool) : BitVec 4 := m ++ BitVec.ofBool b

theorem byte_fields : ∀ d : Byte, scField d ++ rwField d ++ modeBits (mField d) (bcdField d) = d := by decide

@[simp] theorem scField_commandByte (c : Chan) : ∀ rw x, scField (commandByte c rw x) = chanField c := by
  cases c <;> decide

@[simp] theorem rwField_commandByte (c : Chan) : ∀ rw x, rwField (commandByte c rw x) = rw := by
  cases c <;> decide

@[simp] theorem lowNibble_commandByte (c : Chan) : ∀ rw x, (commandByte c rw x).extractLsb' 0 4 = x := by
  cases c <;> decide

@[simp] theorem mField_commandByte (c : Chan) : ∀ rw m b, mField (commandByte c rw (modeBits m b)) = m := by
  cases c <;> decide

@[simp] theorem bcdField_commandByte (c : Chan) : ∀ rw m b, bcdField (commandByte c rw (modeBits m b)) = b := by
  cases c <;> decide

theorem rwField_cases (rw : BitVec 2) : rw = 0 ∨ ∃ a, rw = rwModeOf a := by
  obtain rfl | rfl | rfl | rfl := bitVec2_cases rw
  · exact .inl rfl
  · exact .inr ⟨.lo, rfl⟩
  · exact .inr ⟨.hi, rfl⟩
  · exact .inr ⟨.word, rfl⟩

/-- A command byte is a LATCH, a MODESET or a READBACK (R83 to R87). -/
theorem command_cases (d : Byte) :
    (∃ c g, d = commandByte c 0 g) ∨ (∃ c a m b, d = commandByte c (rwModeOf a) (modeBits m b)) ∨ scField d = 3 := by
  have hd := byte_fields d
  obtain ⟨c, hc⟩ | hsc := chanField_or_three (scField d)
  · obtain hrw | ⟨a, hrw⟩ := rwField_cases (rwField d)
    · exact .inl ⟨c, _, by rw [← hd, hc, hrw]; rfl⟩
    · exact .inr (.inl ⟨c, a, _, _, by rw [← hd, hc, hrw]; rfl⟩)
  · exact .inr (.inr hsc)

theorem decodeCommand_of_channel (cfg : Config) (c : Chan) (rw : BitVec 2) (x : BitVec 4) :
    decodeCommand cfg (commandByte c rw x) = decodeChannelCommand c (commandByte c rw x) := by
  cases c <;> simp [decodeCommand, chanField]

theorem decodeCommand_latch (cfg : Config) (c : Chan) (g : BitVec 4) :
    decodeCommand cfg (commandByte c 0 g) = .latch c g := by
  simp [decodeCommand_of_channel, decodeChannelCommand]

theorem decodeCommand_modeset (cfg : Config) (c : Chan) (a : Access) (m : BitVec 3) (b : Bool) :
    decodeCommand cfg (commandByte c (rwModeOf a) (modeBits m b)) = .modeset c a m b := by
  cases a <;> simp [decodeCommand_of_channel, decodeChannelCommand, rwModeOf]

theorem decodeCommand_readback (cfg : Config) {d : Byte} (h : scField d = 3) :
    decodeCommand cfg d =
      .readback (maskField d) (flagField cfg d cfg.rbCountBit) (flagField cfg d cfg.rbStatusBit)
        (d.getLsbD (spareBit cfg)) := by
  simp [decodeCommand, h]

/-! ### What the encoder writes (R96) -/

theorem encode_outd (cfg : Config) (c : Chan) : ∀ b, encode cfg (.outd c b) = wordOf 0 (chanField c) b := by
  cases c <;> simp only [Instr.outd, encode] <;> decide

theorem encode_ind (cfg : Config) (c : Chan) : encode cfg (.ind c) = wordOf 1 (chanField c) 0 := by
  cases c <;> rfl

theorem encode_latch (cfg : Config) (c : Chan) :
    ∀ g, encode cfg (.latch c g) = wordOf 0 3 (commandByte c 0 g) := by
  cases c <;> simp only [Instr.latch, encode] <;> decide

theorem encode_modeset (cfg : Config) (c : Chan) (a : Access) :
    ∀ m b, encode cfg (.modeset c a m b) = wordOf 0 3 (commandByte c (rwModeOf a) (modeBits m b)) := by
  cases c <;> cases a <;> simp only [Instr.modeset, encode] <;> decide

/-- The read-back word with its three upper flags at the bits `p`, `q` and `r`. -/
def readbackWord (p q r : Nat) (mask : BitVec 3) (x y z : Bool) : TWord :=
  0x3C0 ||| mask.setWidth 13 ||| bitAt x p ||| bitAt y q ||| bitAt z r

/-- The flags of a READBACK and its spare bit fill the bits 3 to 5 in some order (R11, R87). -/
def FlagOrder (p q r : Nat) : Prop :=
  (p = 3 ∧ q = 4 ∧ r = 5) ∨ (p = 3 ∧ q = 5 ∧ r = 4) ∨ (p = 4 ∧ q = 3 ∧ r = 5) ∨ (p = 4 ∧ q = 5 ∧ r = 3) ∨
    (p = 5 ∧ q = 3 ∧ r = 4) ∨ (p = 5 ∧ q = 4 ∧ r = 3)

theorem flagOrder_of_wf {cfg : Config} {mask : BitVec 3} {cnt sta spare : Bool}
    (h : (Instr.readback mask cnt sta spare).wf cfg = true) :
    FlagOrder cfg.rbCountBit cfg.rbStatusBit (spareBit cfg) := by
  obtain ⟨hp, hq, hne⟩ := flagBits_cases h
  unfold FlagOrder spareBit
  rcases hp with hp | hp | hp <;> rcases hq with hq | hq | hq <;> simp [hp, hq] at hne ⊢

/-- The data field of a read-back word. -/
def readbackByte (p q r : Nat) (mask : BitVec 3) (x y z : Bool) : Byte := dataField (readbackWord p q r mask x y z)

/-- The read-back word carries its operands where they stand. -/
theorem readbackWord_fields {p q r : Nat} (h : FlagOrder p q r) :
    ∀ mask x y z, readbackWord p q r mask x y z = wordOf 0 3 (readbackByte p q r mask x y z) ∧
      scField (readbackByte p q r mask x y z) = 3 ∧ maskField (readbackByte p q r mask x y z) = mask ∧
      (readbackByte p q r mask x y z).getLsbD p = x ∧ (readbackByte p q r mask x y z).getLsbD q = y ∧
      (readbackByte p q r mask x y z).getLsbD r = z := by
  obtain ⟨rfl, rfl, rfl⟩ | ⟨rfl, rfl, rfl⟩ | ⟨rfl, rfl, rfl⟩ | ⟨rfl, rfl, rfl⟩ | ⟨rfl, rfl, rfl⟩ | ⟨rfl, rfl, rfl⟩ := h
  all_goals decide

theorem readbackWord_of_byte {p q r : Nat} (h : FlagOrder p q r) :
    ∀ d, scField d = 3 →
      readbackWord p q r (maskField d) (d.getLsbD p) (d.getLsbD q) (d.getLsbD r) = wordOf 0 3 d := by
  obtain ⟨rfl, rfl, rfl⟩ | ⟨rfl, rfl, rfl⟩ | ⟨rfl, rfl, rfl⟩ | ⟨rfl, rfl, rfl⟩ | ⟨rfl, rfl, rfl⟩ | ⟨rfl, rfl, rfl⟩ := h
  all_goals decide

/-! ### The round trips -/

theorem decode_encode_readback {cfg : Config} {mask : BitVec 3} {cnt sta spare : Bool}
    (h : (Instr.readback mask cnt sta spare).wf cfg = true) :
    decode cfg (encode cfg (.readback mask cnt sta spare)) = .instr (.readback mask cnt sta spare) := by
  obtain ⟨hw, hsc, hm, hp, hq, hr⟩ :=
    readbackWord_fields (flagOrder_of_wf h) mask (xor cnt cfg.rbActiveLow) (xor sta cfg.rbActiveLow) spare
  have he : encode cfg (.readback mask cnt sta spare) = wordOf 0 3 _ := hw
  rw [he, decode_command, decodeCommand_readback cfg hsc, hm, hr, flagField, hp, flagField, hq]
  simp

theorem encode_decodeCommand_readback {cfg : Config} {d : Byte}
    (h : FlagOrder cfg.rbCountBit cfg.rbStatusBit (spareBit cfg)) (hsc : scField d = 3) :
    encode cfg (decodeCommand cfg d) = wordOf 0 3 d := by
  rw [decodeCommand_readback cfg hsc, ← readbackWord_of_byte h d hsc]
  simp [encode, flagField, readbackWord]

/-- Settles O1: each kind of operation is written into fields that the decoder reads back. -/
theorem decodeInvertsEncode : Obligations.DecodeInvertsEncode := by
  intro cfg i hwf
  obtain ⟨c, g, rfl⟩ | ⟨c, a, m, b, rfl⟩ | ⟨mask, cnt, sta, spare, rfl⟩ | ⟨c, b, rfl⟩ | ⟨c, rfl⟩ | rfl | rfl | rfl |
    rfl := Instr.kinds i
  · rw [encode_latch, decode_command, decodeCommand_latch]
  · rw [encode_modeset, decode_command, decodeCommand_modeset]
  · exact decode_encode_readback hwf
  · rw [encode_outd, decode_outd]
  · rw [encode_ind, decode_ind]
    rfl
  · exact decode_incmd cfg 0
  · exact decode_inaux cfg 0 0
  · exact decode_query cfg 0 0
  · exact decode_reset cfg 0 0

theorem encode_decodeCommand {cfg : Config} {d : Byte} (hwf : (decodeCommand cfg d).wf cfg = true) :
    encode cfg (decodeCommand cfg d) = wordOf 0 3 d := by
  obtain ⟨c, g, rfl⟩ | ⟨c, a, m, b, rfl⟩ | hsc := command_cases d
  · rw [decodeCommand_latch, encode_latch]
  · rw [decodeCommand_modeset, encode_modeset]
  · rw [decodeCommand_readback cfg hsc] at hwf
    exact encode_decodeCommand_readback (flagOrder_of_wf hwf) hsc

/-- Settles O2: the fields of a legal word are those the encoder writes for what it decodes to. -/
theorem encodeInvertsDecode : Obligations.EncodeInvertsDecode := by
  intro cfg t i hwf h
  obtain ⟨c, d, rfl⟩ | ⟨d, rfl⟩ | ⟨c, d, rfl⟩ | ⟨d, rfl⟩ | ⟨sel, d, rfl⟩ | ⟨sel, d, rfl⟩ | ⟨sel, d, rfl⟩ |
    ⟨op, sel, d, rfl, hop⟩ := word_cases t
  · rw [decode_outd] at h
    cases h
    exact encode_outd cfg c d
  · rw [decode_command] at h
    cases h
    exact encode_decodeCommand hwf
  · rw [decode_ind] at h
    obtain ⟨hd, rfl⟩ := decodeUnused_eq_instr h
    rw [encode_ind, eq_of_beq hd]
  · rw [decode_incmd] at h
    obtain ⟨hd, rfl⟩ := decodeUnused_eq_instr h
    rw [encode, eq_of_beq hd]
    rfl
  · rw [decode_inaux] at h
    obtain ⟨rfl, rfl, rfl⟩ := zero_of_decodeUnused h
    rfl
  · rw [decode_query] at h
    obtain ⟨rfl, rfl, rfl⟩ := zero_of_decodeUnused h
    rfl
  · rw [decode_reset] at h
    obtain ⟨rfl, rfl, rfl⟩ := zero_of_decodeUnused h
    rfl
  · rw [decode_reserved cfg sel d hop] at h
    cases h

/-! ### Illegal words (R94) -/

theorem toNat_wordOf_div_1024 (op : BitVec 3) (sel : BitVec 2) (d : Byte) :
    (wordOf op sel d).toNat / 1024 = op.toNat := by
  rw [toNat_wordOf]
  omega

theorem toNat_wordOf_mod_256 (op : BitVec 3) (sel : BitVec 2) (d : Byte) :
    (wordOf op sel d).toNat % 256 = 0 ↔ d = 0 := by
  have hd : d = 0 ↔ d.toNat = 0 := BitVec.toNat_eq
  rw [hd, toNat_wordOf]
  omega

theorem toNat_wordOf_mod_1024 (op : BitVec 3) (sel : BitVec 2) (d : Byte) :
    (wordOf op sel d).toNat % 1024 = 0 ↔ sel = 0 ∧ d = 0 := by
  have hs : sel = 0 ↔ sel.toNat = 0 := BitVec.toNat_eq
  have hd : d = 0 ↔ d.toNat = 0 := BitVec.toNat_eq
  rw [hs, hd, toNat_wordOf]
  omega

/-- The words of R94, as the statement writes them. -/
def IllegalNumber (w : Nat) : Prop :=
  5 ≤ w / 1024 ∨ (w / 1024 = 1 ∧ w % 256 ≠ 0) ∨ (2 ≤ w / 1024 ∧ w / 1024 ≤ 4 ∧ w % 1024 ≠ 0)

theorem illegalNumber_wordOf {op : BitVec 3} {sel : BitVec 2} {d : Byte} :
    IllegalNumber (wordOf op sel d).toNat ↔
      5 ≤ op.toNat ∨ (op.toNat = 1 ∧ ¬ d = 0) ∨
        (2 ≤ op.toNat ∧ op.toNat ≤ 4 ∧ ¬ (sel = 0 ∧ d = 0)) := by
  rw [IllegalNumber, toNat_wordOf_div_1024, ne_eq, ne_eq, toNat_wordOf_mod_256, toNat_wordOf_mod_1024]

theorem exists_decodeUnused_eq_illegal {clean : Bool} {i : Instr} :
    (∃ why, decodeUnused clean i = .illegal why) ↔ clean = false := by
  cases clean <;> simp [decodeUnused]

/-- Form by form, from the field that must be zero. -/
theorem exists_decode_eq_illegal (cfg : Config) (t : TWord) :
    (∃ why, decode cfg t = .illegal why) ↔ IllegalNumber t.toNat := by
  obtain ⟨c, d, rfl⟩ | ⟨d, rfl⟩ | ⟨c, d, rfl⟩ | ⟨d, rfl⟩ | ⟨sel, d, rfl⟩ | ⟨sel, d, rfl⟩ | ⟨sel, d, rfl⟩ |
    ⟨op, sel, d, rfl, hop⟩ := word_cases t <;> rw [illegalNumber_wordOf]
  · rw [decode_outd]
    simp
  · rw [decode_command]
    simp
  · rw [decode_ind, exists_decodeUnused_eq_illegal]
    simp
  · rw [decode_incmd, exists_decodeUnused_eq_illegal]
    simp
  · rw [decode_inaux, exists_decodeUnused_eq_illegal]
    simp
  · rw [decode_query, exists_decodeUnused_eq_illegal]
    simp
  · rw [decode_reset, exists_decodeUnused_eq_illegal]
    simp
  · rw [decode_reserved cfg sel d hop]
    exact iff_of_true ⟨_, rfl⟩ (.inl hop)

/-- Settles O4: the words of `exists_decode_eq_illegal`. -/
theorem illegalWordsExactly : Obligations.IllegalWordsExactly := exists_decode_eq_illegal

/-! ### The rows of the opcode table -/

/-- The word the encoder writes fits the operation's own row. -/
theorem row_fits_encode (i : Instr) : Laws.RowFit.Statement i := by
  cases i with
  | latch0 g => exact Laws.RowFit.latch0 g
  | latch1 g => exact Laws.RowFit.latch1 g
  | latch2 g => exact Laws.RowFit.latch2 g
  | modesetLo0 m b => exact Laws.RowFit.modesetLo0 m b
  | modesetLo1 m b => exact Laws.RowFit.modesetLo1 m b
  | modesetLo2 m b => exact Laws.RowFit.modesetLo2 m b
  | modesetHi0 m b => exact Laws.RowFit.modesetHi0 m b
  | modesetHi1 m b => exact Laws.RowFit.modesetHi1 m b
  | modesetHi2 m b => exact Laws.RowFit.modesetHi2 m b
  | modesetWord0 m b => exact Laws.RowFit.modesetWord0 m b
  | modesetWord1 m b => exact Laws.RowFit.modesetWord1 m b
  | modesetWord2 m b => exact Laws.RowFit.modesetWord2 m b
  | readback mask cnt sta spare => exact Laws.RowFit.readback mask cnt sta spare
  | outd0 b => exact Laws.RowFit.outd0 b
  | outd1 b => exact Laws.RowFit.outd1 b
  | outd2 b => exact Laws.RowFit.outd2 b
  | ind0 => exact Laws.RowFit.ind0
  | ind1 => exact Laws.RowFit.ind1
  | ind2 => exact Laws.RowFit.ind2
  | incmd => exact Laws.RowFit.incmd
  | inaux => exact Laws.RowFit.inaux
  | query => exact Laws.RowFit.query
  | reset => exact Laws.RowFit.reset

theorem fits_iff {r : Row} {t : TWord} : r.fits t = true ↔ t &&& r.mask = r.pattern :=
  beq_iff_eq

/-- The parameters move the operands of a READBACK, and so never change the row a word decodes to. -/
theorem decode_defaults_rowIndex {cfg : Config} {t : TWord} {i : Instr} (h : decode cfg t = .instr i) :
    ∃ j, decode Config.defaults t = .instr j ∧ j.rowIndex = i.rowIndex := by
  by_cases hd : ∀ mask cnt sta spare, decode Config.defaults t ≠ .instr (.readback mask cnt sta spare)
  · exact ⟨i, by rw [← decode_congr cfg Config.defaults t hd, h], rfl⟩
  · push Not at hd
    obtain ⟨mask, cnt, sta, spare, hd⟩ := hd
    refine ⟨_, hd, by_contra fun hne => ?_⟩
    have he : decode Config.defaults t = decode cfg t := by
      apply decode_congr
      rintro mask' cnt' sta' spare' hi
      rw [h] at hi
      cases hi
      exact hne rfl
    rw [hd, h] at he
    cases he
    exact hne rfl

theorem rowIndex_lt (i : Instr) : i.rowIndex < opcodeRows.length := by
  cases i <;> simp [Instr.rowIndex, opcodeRows]

/-- Any two rows of the table ask for different values of some bit that both fix. -/
theorem opcodeRows_disjoint : ∀ j < opcodeRows.length, ∀ k < opcodeRows.length,
    (opcodeRows.getD j ⟨0, 1⟩).pattern &&& (opcodeRows.getD k ⟨0, 1⟩).mask =
      (opcodeRows.getD k ⟨0, 1⟩).pattern &&& (opcodeRows.getD j ⟨0, 1⟩).mask → j = k := by
  decide

theorem eq_of_fits {t : TWord} {j k : Nat} (hj : j < opcodeRows.length) (hk : k < opcodeRows.length)
    (fj : (opcodeRows.getD j ⟨0, 1⟩).fits t = true) (fk : (opcodeRows.getD k ⟨0, 1⟩).fits t = true) : j = k := by
  refine opcodeRows_disjoint j hj k hk ?_
  rw [← fits_iff.1 fj, ← fits_iff.1 fk, BitVec.and_assoc, BitVec.and_assoc, BitVec.and_comm (Row.mask _)]

theorem fits_row_of_decode {cfg : Config} {t : TWord} {i : Instr} (h : decode cfg t = .instr i) :
    i.row.fits t = true := by
  obtain ⟨j, hj, hrow⟩ := decode_defaults_rowIndex h
  have hwf : j.wf Config.defaults = true := by cases j <;> rfl
  have hfit : j.row.fits t = true := by
    rw [← encodeInvertsDecode Config.defaults t j hwf hj]
    exact row_fits_encode j Config.defaults hwf
  rwa [Instr.row, hrow] at hfit

/-- Each row fixes `op` at 0, where no word is illegal, or fixes every bit, at a legal word. -/
theorem opcodeRows_legal : ∀ r ∈ opcodeRows,
    (opField r.mask = BitVec.allOnes 3 ∧ opField r.pattern = 0) ∨
      (r.mask = BitVec.allOnes 13 ∧ (decode Config.defaults r.pattern).toOption.isSome) := by
  decide

theorem opField_of_fits {r : Row} {t : TWord} (h : r.fits t = true) (hm : opField r.mask = BitVec.allOnes 3) :
    opField t = opField r.pattern := by
  have hp : opField r.pattern = opField t &&& opField r.mask := by
    rw [← fits_iff.1 h]
    exact BitVec.extractLsb'_and
  rw [hp, hm, BitVec.and_allOnes]

theorem not_illegalNumber_of_fits {r : Row} {t : TWord} (hr : r ∈ opcodeRows) (h : r.fits t = true) :
    ¬ IllegalNumber t.toNat := by
  obtain ⟨hm, hp⟩ | ⟨hm, hlegal⟩ := opcodeRows_legal r hr
  · have hop : opField t = 0 := (opField_of_fits h hm).trans hp
    rw [← wordOf_fields t, illegalNumber_wordOf, hop]
    simp
  · have ht : t = r.pattern := by rw [← fits_iff.1 h, hm, BitVec.and_allOnes]
    rw [ht, ← exists_decode_eq_illegal Config.defaults]
    rintro ⟨why, hwhy⟩
    rw [hwhy] at hlegal
    cases hlegal

/-- Settles O3: the encoder fits a legal word's row and no other row can; every row asks for a legal word. -/
theorem legalWordsFitExactlyOneRow : Obligations.LegalWordsFitExactlyOneRow := by
  intro cfg t
  refine ⟨fun i h k hk => ⟨fun hfit => ?_, ?_⟩, fun why h r hr => ?_⟩
  · exact eq_of_fits hk (rowIndex_lt i) hfit (fits_row_of_decode h)
  · rintro rfl
    exact fits_row_of_decode h
  · rw [Bool.eq_false_iff]
    intro hfit
    exact not_illegalNumber_of_fits hr hfit ((exists_decode_eq_illegal cfg t).1 ⟨why, h⟩)

/-- Settles O5: each is one run of the decoder. -/
theorem specWordsDecode : Obligations.SpecWordsDecode := by
  unfold Obligations.SpecWordsDecode
  decide

end Sys2Proof.Proofs.Encoding
end

section
/-! PROOFS. Counting (40_counter_arithmetic.md, 43_scheduler.md R201): the live count over time, the conversions, and
what the level depends on. -/

namespace Sys2Proof.Proofs.Counting

open Sys2Proof Sys2Proof.Machine Sys2Proof.Claims
open Sys2Proof.Proofs.ChannelOps

/-! ### The live count over one period (R115) -/

theorem countAfter_add_period {n : Nat} (h : 0 < n) (t : Nat) : countAfter n (t + n) = countAfter n t := by
  rw [countAfter_eq_phase h, countAfter_eq_phase h, Nat.add_mod_right]

theorem countAfter_one (t : Nat) : countAfter 1 t = 0 := by
  rw [countAfter_eq_phase Nat.one_pos, Nat.mod_one, if_pos rfl]

theorem countAfter_eq_zero_iff {n : Nat} (h : 0 < n) (t : Nat) : countAfter n t = 0 ↔ t % n = 0 := by
  have hlt : t % n < n := Nat.mod_lt t h
  rw [countAfter_eq_phase h]
  split <;> omega

/-- The live count `d` ticks after a tick of phase `r`, for less than a period of ticks. -/
theorem countAfter_add {n t d : Nat} (h : 0 < n) (hd : d < n) :
    countAfter n (t + d) =
      if t % n + d = 0 then 0 else if t % n + d ≤ n then n - (t % n + d) else 2 * n - (t % n + d) := by
  have hlt : t % n < n := Nat.mod_lt t h
  have hmod : (t + d) % n = if n ≤ t % n + d then t % n + d - n else t % n + d := by
    rw [Nat.add_mod_eq_ite, Nat.mod_eq_of_lt hd]
  rw [countAfter_eq_phase h, hmod]
  split_ifs <;> omega

theorem countAfter_succ_add_one {n : Nat} (t : Nat) (h : t % n ≠ 0) (hn : 0 < n) :
    countAfter n (t + 1) + 1 = countAfter n t := by
  have hlt : t % n < n := Nat.mod_lt t hn
  rw [countAfter_add (d := 1) hn (by omega), countAfter_eq_phase hn, if_neg h, if_neg (by omega), if_pos (by omega)]
  omega

/-- Less than a period later, the live count is seen higher exactly from phase 0 or past the period's end. -/
theorem countAfter_lt_iff {n t d : Nat} (hn : 2 ≤ n) (hd : 0 < d) (hdn : d < n) :
    countAfter n t < countAfter n (t + d) ↔ t % n = 0 ∨ n < t % n + d := by
  have h : 0 < n := by omega
  have hlt : t % n < n := Nat.mod_lt t h
  rw [countAfter_add h hdn, countAfter_eq_phase h]
  split_ifs <;> omega

theorem countAfter_lt_succ_iff {n : Nat} (hn : 2 ≤ n) (t : Nat) :
    countAfter n t < countAfter n (t + 1) ↔ t % n = 0 := by
  have hlt : t % n < n := Nat.mod_lt t (by omega)
  rw [countAfter_lt_iff hn Nat.one_pos hn]
  omega

/-- Settles O7: each clause reads the live count off the phase. -/
theorem liveCountRisesOncePerPeriod : Obligations.LiveCountRisesOncePerPeriod := fun n t h =>
  ⟨countAfter_zero n, countAfter_add_period h t, countAfter_one t, countAfter_eq_zero_iff h t,
    fun ht => countAfter_succ_add_one t ht h, fun hn => countAfter_lt_succ_iff hn t⟩

/-! ### A rise between two observations (43 R201) -/

/-- Less than a period after `t`, a tick congruent to 1 is passed exactly from a phase 0 or past the period's end. -/
theorem exists_tick_one_iff {n t d : Nat} (hn : 2 ≤ n) (hd : 0 < d) (hdn : d < n) :
    (∃ k, t < k ∧ k ≤ t + d ∧ k % n = 1) ↔ t % n = 0 ∨ n < t % n + d := by
  have hlt : t % n < n := Nat.mod_lt t (by omega)
  constructor
  · rintro ⟨k, hk, hkd, h1⟩
    obtain ⟨j, rfl⟩ := Nat.exists_eq_add_of_lt hk
    rw [Nat.add_assoc, Nat.add_mod_eq_ite, Nat.mod_eq_of_lt (by omega : j + 1 < n)] at h1
    split at h1 <;> omega
  · rintro (h0 | hpast)
    · refine ⟨t + 1, by omega, by omega, ?_⟩
      rw [Nat.add_mod_eq_ite, Nat.mod_eq_of_lt hn, h0, if_neg (by omega)]
    · refine ⟨t + (n - t % n + 1), by omega, by omega, ?_⟩
      have hk : t + (n - t % n + 1) = 1 + n * (t / n + 1) := by
        have := Nat.div_add_mod t n
        rw [Nat.mul_succ]
        omega
      rw [hk, Nat.add_mul_mod_self_left, Nat.mod_eq_of_lt hn]

/-- Settles O8: both sides say that the interval starts at phase 0 or passes the period's end. -/
theorem wrapSeenExactlyAtTickOne : Obligations.WrapSeenExactlyAtTickOne := by
  intro n t1 t2 hlt
  refine ⟨fun hn hper => ?_, by simp [countAfter_one]⟩
  obtain ⟨d, rfl⟩ := Nat.exists_eq_add_of_le hlt.le
  rw [countAfter_lt_iff hn (by omega) (by omega), exists_tick_one_iff hn (by omega) (by omega)]

/-! ### The conversions (R111, R112) -/

theorem microsToTicks_ticksToMicros_le (cfg : Config) (n : Nat) : microsToTicks cfg (ticksToMicros cfg n) ≤ n := by
  rw [microsToTicks, ticksToMicros]
  exact Nat.div_le_of_le_mul ((Nat.div_mul_le_self _ _).trans_eq (Nat.mul_comm _ _))

theorem microsToTicks_lt_succ {cfg : Config} (h : usPerSecond < cfg.oscHz) (u : Nat) :
    microsToTicks cfg u < microsToTicks cfg (u + 1) :=
  calc microsToTicks cfg u < u * cfg.oscHz / usPerSecond + 1 := Nat.lt_succ_self _
    _ = (u * cfg.oscHz + usPerSecond) / usPerSecond := (Nat.add_div_right _ (by decide)).symm
    _ ≤ microsToTicks cfg (u + 1) := Nat.div_le_div_right (by rw [Nat.succ_mul]; omega)

/-- Settles O9: the defining bounds of a floor, for each conversion. -/
theorem conversionsAreFloors : Obligations.ConversionsAreFloors := by
  intro cfg n u h
  have hus : 0 < usPerSecond := by decide
  exact ⟨Nat.div_mul_le_self _ _, (Nat.lt_div_mul_add h).trans_eq (Nat.succ_mul _ _).symm,
    Nat.div_mul_le_self _ _, (Nat.lt_div_mul_add hus).trans_eq (Nat.succ_mul _ _).symm,
    microsToTicks_ticksToMicros_le cfg n, fun hf => microsToTicks_lt_succ hf u⟩

/-! ### The level (R117 to R124) -/

/-- Settles O12: the phase never reaches the count. -/
theorem oneShotLevelsAreConstant : Obligations.OneShotLevelsAreConstant := by
  intro cfg ch now h
  have hlt : ¬ ch.count ≤ phase cfg ch now := Nat.not_le.2 (phase_lt cfg ch now h)
  refine ⟨fun hm => ?_, fun hm => ?_⟩
  · simp [outputLevel, h, hm, level0, hlt]
  · simp [outputLevel, h, hm, level1, hlt]

theorem outputLevel_unloaded (cfg : Config) {ch : Channel} (now : Nat) (h : ch.count = 0) :
    outputLevel cfg ch now = .ok false :=
  if_pos h

theorem outputLevel_eq_error_iff {cfg : Config} {ch : Channel} {now : Nat} {r : Fault} :
    outputLevel cfg ch now = .error r ↔ r = .undefinedMode ∧ levelUndefined ch := by
  obtain ⟨hd, l, hl⟩ | ⟨hu, he⟩ := outputLevel_cases cfg ch now
  · rw [hl]
    exact iff_of_false (fun h => by cases h) (fun h => hd h.2)
  · rw [he]
    exact ⟨fun h => by cases h; exact ⟨rfl, hu⟩, fun h => by rw [h.1]⟩

/-- Settles O13: the count is tested first, and modes 6 and 7 alone have no waveform. -/
theorem levelFaultsExactlyInLoadedModes6And7 : Obligations.LevelFaultsExactlyInLoadedModes6And7 :=
  fun cfg _ now => ⟨outputLevel_unloaded cfg now, fun _ => outputLevel_eq_error_iff⟩

/-- Settles O14: the congruence law of each function. -/
theorem countingIgnoresGateBcdRunningAndLatches : Obligations.CountingIgnoresGateBcdRunningAndLatches :=
  fun cfg _ _ now h hl hm =>
    ⟨liveCount_congr cfg now h hl, phase_congr cfg now h hl, outputLevel_congr cfg now h hl hm⟩

end Sys2Proof.Proofs.Counting
end

section
/-! PROOFS. What each operation does (42_port_dispatch.md, 43_scheduler.md R200, 70_reset_and_hazards.md R250): one
equation for each kind of operation, then the statements. -/

namespace Sys2Proof.Proofs.Operations

open Sys2Proof Sys2Proof.Machine Sys2Proof.Claims
open Sys2Proof.Proofs.ChannelOps Sys2Proof.Proofs.Scheduler

/-! ### Cleared outputs and faults -/

theorem clearOutputs_eq_quiet (s : State) : s.clearOutputs = quiet s := rfl

@[simp] theorem quiet_cfg (s : State) : (quiet s).cfg = s.cfg := rfl
@[simp] theorem quiet_now (s : State) : (quiet s).now = s.now := rfl
@[simp] theorem quiet_ch (s : State) (c : Chan) : (quiet s).ch c = s.ch c := rfl
@[simp] theorem quiet_events (s : State) : (quiet s).events = [] := rfl

theorem quiet_setCh_ch (s : State) (c : Chan) : (quiet s).setCh c (s.ch c) = quiet s :=
  State.setCh_ch (quiet s) c

/-! ### The bytes and words that ports carry -/

theorem lowByte_eq_ofNat (v : Half) : lowByte v = BitVec.ofNat 8 (v.toNat % 256) := by
  apply BitVec.eq_of_toNat_eq
  simp [lowByte]

theorem highByte_eq_ofNat (v : Half) : highByte v = BitVec.ofNat 8 (v.toNat / 256) := by
  apply BitVec.eq_of_toNat_eq
  simp [highByte, Nat.shiftRight_eq_div_pow]

theorem lowByte_ofNat (n : Nat) : lowByte (BitVec.ofNat 16 n) = BitVec.ofNat 8 (n % 256) := by
  rw [lowByte_eq_ofNat, BitVec.toNat_ofNat, Nat.mod_mod_of_dvd n (by decide)]

theorem highByte_ofNat (n : Nat) : highByte (BitVec.ofNat 16 n) = BitVec.ofNat 8 (n / 256 % 256) := by
  rw [highByte_eq_ofNat, BitVec.toNat_ofNat]
  congr 1
  omega

theorem snapshot_eq_frozenCount (rw : BitVec 2) (n : Nat) : snapshot rw (BitVec.ofNat 16 n) = frozenCount rw n := by
  obtain rfl | rfl | rfl | rfl := bitVec2_cases rw
  · rfl
  · apply BitVec.eq_of_toNat_eq
    simp [snapshot, frozenCount, lowByte_ofNat]
  · apply BitVec.eq_of_toNat_eq
    simp [snapshot, frozenCount, highByte_ofNat]
    omega
  · rfl

theorem toNat_loadValueLo (b : Byte) : (loadValueLo b).toNat = b.toNat := by
  have := b.isLt
  rw [loadValueLo, BitVec.toNat_setWidth]
  omega

theorem toNat_loadValueHi (b : Byte) : (loadValueHi b).toNat = 256 * b.toNat := by
  have := b.isLt
  rw [loadValueHi, BitVec.toNat_shiftLeft, BitVec.toNat_setWidth, Nat.shiftLeft_eq]
  omega

theorem toNat_loadValueWord (b interim : Byte) :
    (loadValueWord b interim).toNat = 256 * b.toNat + interim.toNat := by
  have hi : interim.toNat < 2 ^ 8 := interim.isLt
  have hlow : (interim.setWidth 16).toNat = interim.toNat := by
    rw [BitVec.toNat_setWidth]
    omega
  have hhigh : (b.setWidth 16 <<< 8).toNat = b.toNat <<< 8 := by
    rw [← loadValueHi, toNat_loadValueHi, Nat.shiftLeft_eq, Nat.mul_comm]
  rw [loadValueWord, BitVec.toNat_or, hlow, hhigh, ← Nat.shiftLeft_add_eq_or_of_lt hi, Nat.shiftLeft_eq, Nat.mul_comm]

/-! ### LATCH (R161) -/

theorem exec_latch_eq (c : Chan) (g : BitVec 4) (s : State) :
    exec (.latch c g) s = .next ((quiet s).setCh c (latchCounter s.cfg (s.ch c) s.now)) := by
  rw [exec_latch]
  exact runOp_of_ok rfl

/-- Settles O17: `latchCounter` with a latch pending, and with none. -/
theorem latchFreezesTheLiveCount : Obligations.LatchFreezesTheLiveCount := by
  intro c g s
  refine ⟨fun h => ?_, fun h => ?_⟩ <;> rw [exec_latch_eq, latchCounter, h]
  · simp [quiet_setCh_ch]
  · simp [snapshot_eq_frozenCount]

/-! ### MODESET (R162 to R167) -/

theorem emitIf_emitIf (s : State) (p q : Bool) (e f : Event) :
    (s.emitIf p e).emitIf q f =
      { s with events := s.events ++ ((if p then [e] else []) ++ (if q then [f] else [])) } := by
  cases p <;> cases q <;> simp [State.emitIf, State.emit]

theorem exec_modeset_eq (c : Chan) (a : Access) (m : BitVec 3) (b : Bool) (s : State) :
    exec (.modeset c a m b) s =
      .next { (quiet s).setCh c (configureChannel a m b (s.ch c)) with
        events := (if b then [.bcdUnsupported] else []) ++ (if mode2Quirk c m then [.raise] else []) } := by
  rw [exec_modeset]
  refine runOp_of_ok ?_
  rw [modesetBody, emitIf_emitIf]
  simp [clearOutputs_eq_quiet]

/-- Settles O18: the equation of MODESET, the access pattern written out. -/
theorem modesetProgramsTheChannel : Obligations.ModesetProgramsTheChannel := by
  intro c a m b s
  have hquirk : (if mode2Quirk c m then [Event.raise] else []) = if c = .c0 ∧ m = 2 then [.raise] else [] := by
    simp [mode2Quirk]
  rw [exec_modeset_eq, hquirk]
  cases a <;> rfl

/-! ### READBACK (R168) -/

theorem levelOf_congr (cfg : Config) {x y : Channel} (now : Nat) (h : y.count = x.count)
    (hl : y.lastLoad = x.lastLoad) (hm : y.mode = x.mode) : levelOf cfg y now = levelOf cfg x now := by
  rw [levelOf, levelOf, outputLevel_congr cfg now h hl hm]

theorem latchCounter_eq_readBack (cfg : Config) (ch : Channel) (now : Nat) (cnt : Bool) :
    (if cnt then latchCounter cfg ch now else ch) = readBack cfg cnt false ch now := by
  cases cnt with
  | false => simp [readBack]
  | true =>
    obtain ⟨hp, h⟩ | ⟨hp, h⟩ := latchCounter_cases cfg ch now
    · simp [h, readBack, hp]
      rw [← hp]
    · simp [h, readBack, hp, snapshot_eq_frozenCount]

theorem latchStatus_eq_readBack {cfg : Config} {ch : Channel} {now : Nat}
    (h : ch.stPend = false → ¬ levelUndefined ch) : latchStatus cfg ch now = .ok (readBack cfg false true ch now) := by
  cases hp : ch.stPend with
  | true =>
    rw [latchStatus_of_pending cfg ch now hp]
    simp [readBack, hp]
    rw [← hp]
  | false =>
    obtain ⟨lvl, hl⟩ := outputLevel_of_not_levelUndefined cfg ch now (h hp)
    rw [latchStatus_of_level cfg ch now hp hl]
    simp [readBack, hp, levelOf, hl]

theorem readBack_stPend (cfg : Config) (cnt : Bool) (ch : Channel) (now : Nat) :
    (readBack cfg cnt false ch now).stPend = ch.stPend := Bool.or_false _

/-- The counter latch of READBACK leaves what its status latch reads. -/
theorem readBack_readBack (cfg : Config) (cnt : Bool) (ch : Channel) (now : Nat) :
    readBack cfg false true (readBack cfg cnt false ch now) now = readBack cfg cnt true ch now := by
  have hl : levelOf cfg (readBack cfg cnt false ch now) now = levelOf cfg ch now := levelOf_congr cfg now rfl rfl rfl
  rw [readBack, hl]
  simp [readBack]

/-- The turn of channel `d` in READBACK faults on the channel record `ch`. -/
def TurnFaults (mask : BitVec 3) (sta : Bool) (d : Chan) (ch : Channel) : Prop :=
  maskBit mask d = true ∧ sta = true ∧ ch.stPend = false ∧ levelUndefined ch

/-- The record that a turn leaves which does not fault. -/
def turned (mask : BitVec 3) (cnt sta : Bool) (d : Chan) (cfg : Config) (ch : Channel) (now : Nat) : Channel :=
  if maskBit mask d then readBack cfg cnt sta ch now else ch

theorem turnChannel_of_fault {mask : BitVec 3} {sta : Bool} {d : Chan} {ch : Channel}
    (h : TurnFaults mask sta d ch) (cfg : Config) (cnt : Bool) (now : Nat) :
    turnChannel mask cnt sta d cfg ch now = .error .undefinedMode := by
  obtain ⟨hm, rfl, hp, hu⟩ := h
  simp only [turnChannel, hm, latchCounter_eq_readBack]
  rw [← readBack_stPend cfg cnt ch now] at hp
  exact latchStatus_of_fault cfg _ now hp (outputLevel_of_levelUndefined cfg _ now hu)

theorem turnChannel_of_not_fault {mask : BitVec 3} {sta : Bool} {d : Chan} {ch : Channel}
    (h : ¬ TurnFaults mask sta d ch) (cfg : Config) (cnt : Bool) (now : Nat) :
    turnChannel mask cnt sta d cfg ch now = .ok (turned mask cnt sta d cfg ch now) := by
  simp only [turnChannel, turned, latchCounter_eq_readBack]
  cases hm : maskBit mask d with
  | false => rfl
  | true =>
    cases sta with
    | false => rfl
    | true =>
      rw [← readBack_readBack]
      exact latchStatus_eq_readBack fun hp hu => h ⟨hm, rfl, (readBack_stPend ..).symm.trans hp, hu⟩

theorem readbackBody_of_fault {mask : BitVec 3} {sta : Bool} {s : State} (cnt : Bool)
    (h : ∃ d, TurnFaults mask sta d (s.ch d)) : readbackBody mask cnt sta s = .error .undefinedMode := by
  simp only [readbackBody, readbackTurn_eq_map]
  by_cases h0 : TurnFaults mask sta .c0 s.ch0
  · simp [turnChannel_of_fault h0, Except.map]
  · by_cases h1 : TurnFaults mask sta .c1 s.ch1
    · simp [turnChannel_of_not_fault h0, turnChannel_of_fault h1, Except.map]
    · have h2 : TurnFaults mask sta .c2 s.ch2 := by
        obtain ⟨_ | _ | _, hd⟩ := h
        · exact absurd hd h0
        · exact absurd hd h1
        · exact hd
      simp [turnChannel_of_not_fault h0, turnChannel_of_not_fault h1, turnChannel_of_fault h2, Except.map]

theorem readbackBody_of_no_fault {mask : BitVec 3} {sta : Bool} {s : State} (cnt : Bool)
    (h : ∀ d, ¬ TurnFaults mask sta d (s.ch d)) :
    readbackBody mask cnt sta s =
      .ok { s with
        ch0 := turned mask cnt sta .c0 s.cfg s.ch0 s.now
        ch1 := turned mask cnt sta .c1 s.cfg s.ch1 s.now
        ch2 := turned mask cnt sta .c2 s.cfg s.ch2 s.now } := by
  have h0 : ¬ TurnFaults mask sta .c0 s.ch0 := h .c0
  have h1 : ¬ TurnFaults mask sta .c1 s.ch1 := h .c1
  have h2 : ¬ TurnFaults mask sta .c2 s.ch2 := h .c2
  simp only [readbackBody, readbackTurn_eq_map]
  simp [turnChannel_of_not_fault h0, turnChannel_of_not_fault h1, turnChannel_of_not_fault h2, Except.map]
  rfl

theorem exec_readback_of_fault {mask : BitVec 3} {sta : Bool} {s : State} (cnt spare : Bool)
    (h : ∃ d, TurnFaults mask sta d (s.ch d)) :
    exec (.readback mask cnt sta spare) s = .next (faultedFrom s .undefinedMode) :=
  runOp_of_error (readbackBody_of_fault (s := s.clearOutputs) cnt h)

theorem exec_readback_of_no_fault {mask : BitVec 3} {sta : Bool} {s : State} (cnt spare : Bool)
    (h : ∀ d, ¬ TurnFaults mask sta d (s.ch d)) :
    exec (.readback mask cnt sta spare) s =
      .next { quiet s with
        ch0 := turned mask cnt sta .c0 s.cfg s.ch0 s.now
        ch1 := turned mask cnt sta .c1 s.cfg s.ch1 s.now
        ch2 := turned mask cnt sta .c2 s.cfg s.ch2 s.now } :=
  runOp_of_ok (readbackBody_of_no_fault (s := s.clearOutputs) cnt h)

/-- Settles O19: the three turns, none of which faults. -/
theorem readbackLatchesTheSelectedChannels : Obligations.ReadbackLatchesTheSelectedChannels :=
  fun _ cnt _ spare _ h =>
    exec_readback_of_no_fault cnt spare fun d ⟨hm, hs, hp, hu⟩ => h d hm hs hp hu

/-! ### OUTD (R169) -/

theorem exec_outd_of_ok {c : Chan} {b : Byte} {s : State} {x : Channel}
    (h : writeData s.cfg (s.ch c) b s.now = .ok x) : exec (.outd c b) s = .next ((quiet s).setCh c x) := by
  rw [exec_outd]
  refine runOp_of_ok ?_
  rw [outdBody_eq_map, clearOutputs_eq_quiet, quiet_cfg, quiet_ch, quiet_now, h]
  rfl

theorem exec_outd_of_error {c : Chan} {b : Byte} {s : State} {r : Fault}
    (h : writeData s.cfg (s.ch c) b s.now = .error r) : exec (.outd c b) s = .next (faultedFrom s r) := by
  rw [exec_outd]
  refine runOp_of_error ?_
  rw [outdBody_eq_map, clearOutputs_eq_quiet, quiet_cfg, quiet_ch, quiet_now, h]
  rfl

theorem loadCount_eq_loaded (cfg : Config) (ch : Channel) (v : Half) (now : Nat) :
    loadCount cfg ch v now = loaded cfg ch v.toNat now := loadCountWritesTheLoadFields cfg ch v now

theorem writeData_lo {ch : Channel} (h : ch.wcursor = .lo) (cfg : Config) (b : Byte) (now : Nat) :
    writeData cfg ch b now = .ok (loaded cfg ch b.toNat now) := by
  simp only [writeData, h, loadCount_eq_loaded, toNat_loadValueLo]

theorem writeData_hi {ch : Channel} (h : ch.wcursor = .hi) (cfg : Config) (b : Byte) (now : Nat) :
    writeData cfg ch b now = .ok (loaded cfg ch (256 * b.toNat) now) := by
  simp only [writeData, h, loadCount_eq_loaded, toNat_loadValueHi]

theorem writeData_wlo {ch : Channel} (h : ch.wcursor = .wlo) (cfg : Config) (b : Byte) (now : Nat) :
    writeData cfg ch b now = .ok { ch with interim := b, wcursor := .whi } := by
  rw [writeData, h]

theorem writeData_whi {ch : Channel} (h : ch.wcursor = .whi) (cfg : Config) (b : Byte) (now : Nat) :
    writeData cfg ch b now =
      .ok { loaded cfg ch (256 * b.toNat + ch.interim.toNat) now with wcursor := .wlo } := by
  simp only [writeData, h, loadCount_eq_loaded, toNat_loadValueWord]

theorem writeData_unprog {ch : Channel} (h : ch.wcursor = .unprog) (cfg : Config) (b : Byte) (now : Nat) :
    writeData cfg ch b now = .error .unprogrammedAccess := by
  rw [writeData, h]

/-- Settles O20: the record of `writeData` at each of the four programmed cursors. -/
theorem outdStashesOrLoads : Obligations.OutdStashesOrLoads := fun _ _ _ =>
  ⟨fun h => exec_outd_of_ok (writeData_lo h _ _ _), fun h => exec_outd_of_ok (writeData_hi h _ _ _),
    fun h => exec_outd_of_ok (writeData_wlo h _ _ _), fun h => exec_outd_of_ok (writeData_whi h _ _ _)⟩

/-! ### IND (R170) -/

theorem exec_ind_of_ok {c : Chan} {s : State} {x : Channel} {v : Byte}
    (h : readData s.cfg (s.ch c) s.now = .ok (x, v)) :
    exec (.ind c) s = .next { (quiet s).setCh c x with rdata := some v } := by
  rw [exec_ind]
  refine runOp_of_ok ?_
  rw [indBody_eq_map, clearOutputs_eq_quiet, quiet_cfg, quiet_ch, quiet_now, h]
  rfl

theorem exec_ind_of_error {c : Chan} {s : State} {r : Fault}
    (h : readData s.cfg (s.ch c) s.now = .error r) : exec (.ind c) s = .next (faultedFrom s r) := by
  rw [exec_ind]
  refine runOp_of_error ?_
  rw [indBody_eq_map, clearOutputs_eq_quiet, quiet_cfg, quiet_ch, quiet_now, h]
  rfl

theorem readData_of_status {ch : Channel} (h : ch.stPend = true) (cfg : Config) (now : Nat) :
    readData cfg ch now = .ok ({ ch with stPend := false }, ch.statusLatch) :=
  if_pos h

theorem readData_of_counter {ch : Channel} (hs : ch.stPend = false) (hc : ch.ctPend = true) (cfg : Config)
    (now : Nat) : readData cfg ch now = readCounterLatch ch := by
  rw [readData, hs, hc]
  rfl

theorem readData_of_live {ch : Channel} (hs : ch.stPend = false) (hc : ch.ctPend = false) (cfg : Config)
    (now : Nat) : readData cfg ch now = readLive cfg ch now := by
  rw [readData, hs, hc]
  rfl

theorem readCounterLatch_byte {ch : Channel} (h : ch.ctMode = 1 ∨ ch.ctMode = 2) :
    readCounterLatch ch = .ok ({ ch with ctPend := false }, BitVec.ofNat 8 (ch.counterLatch.toNat % 256)) := by
  rw [← lowByte_eq_ofNat]
  obtain h | h := h <;> rw [readCounterLatch, h] <;> rfl

theorem readCounterLatch_low {ch : Channel} (h : ch.ctMode = 3) (hh : ch.ctHi = false) :
    readCounterLatch ch = .ok ({ ch with ctHi := true }, BitVec.ofNat 8 (ch.counterLatch.toNat % 256)) := by
  rw [← lowByte_eq_ofNat, readCounterLatch, h, hh]
  rfl

theorem readCounterLatch_high {ch : Channel} (h : ch.ctMode = 3) (hh : ch.ctHi = true) :
    readCounterLatch ch =
      .ok ({ ch with ctHi := false, ctPend := false }, BitVec.ofNat 8 (ch.counterLatch.toNat / 256)) := by
  rw [← highByte_eq_ofNat, readCounterLatch, h, hh]
  rfl

/-- Settles O21: the first branch of a data read. -/
theorem indReturnsTheStatusLatchFirst : Obligations.IndReturnsTheStatusLatchFirst := fun _ _ h =>
  exec_ind_of_ok (readData_of_status h _ _)

/-- Settles O22: the latch read at each pattern a latch can be read in. -/
theorem indConsumesTheCounterLatch : Obligations.IndConsumesTheCounterLatch := by
  intro c s hs hc
  refine ⟨fun hm => exec_ind_of_ok ?_, fun hm hh => exec_ind_of_ok ?_, fun hm hh => exec_ind_of_ok ?_⟩ <;>
    rw [readData_of_counter hs hc]
  · exact readCounterLatch_byte hm
  · exact readCounterLatch_low hm hh
  · exact readCounterLatch_high hm hh

/-- Settles O23: the live read at each programmed read cursor. -/
theorem indReadsTheLiveCount : Obligations.IndReadsTheLiveCount := by
  intro c s hs hc
  refine ⟨fun hr => ?_, fun hr => ?_, fun hr => exec_ind_of_ok ?_, fun hr => exec_ind_of_ok ?_⟩
  · rw [← quiet_setCh_ch s c, ← lowByte_ofNat]
    exact exec_ind_of_ok (by rw [readData_of_live hs hc, readLive, hr])
  · rw [← quiet_setCh_ch s c, ← highByte_ofNat]
    exact exec_ind_of_ok (by rw [readData_of_live hs hc, readLive, hr])
  · rw [readData_of_live hs hc, readLive, hr, lowByte_ofNat]
  · rw [readData_of_live hs hc, readLive, hr, highByte_ofNat]

/-! ### INCMD and INAUX (R171, R172) -/

/-- Settles O24: its body is the fault. -/
theorem incmdEntersTheFaultedState : Obligations.IncmdEntersTheFaultedState := fun s =>
  runOp_of_error (body := incmdBody) (s := s) rfl

theorem auxByte_eq_ofNat : ∀ lvl ff, auxByte lvl ff = BitVec.ofNat 8 (32 * lvl.toNat + 16 * ff.toNat) := by decide

theorem exec_inaux_of_level {s : State} {lvl : Bool} (h : outputLevel s.cfg s.ch2 s.now = .ok lvl) :
    exec .inaux s = .next { quiet s with auxFf := !s.auxFf, rdata := some (auxByte lvl (!s.auxFf)) } := by
  refine runOp_of_ok ?_
  simp [inauxBody, h]
  rfl

theorem exec_inaux_of_fault {s : State} {r : Fault} (h : outputLevel s.cfg s.ch2 s.now = .error r) :
    exec .inaux s = .next (faultedFrom s r) := by
  refine runOp_of_error ?_
  simp [inauxBody, h]

/-- Settles O25: the level is defined, and the byte adds the two bits. -/
theorem inauxTogglesAndReports : Obligations.InauxTogglesAndReports := by
  intro s h
  obtain ⟨lvl, hl⟩ := outputLevel_of_not_levelUndefined s.cfg s.ch2 s.now h
  exact ⟨lvl, hl, by rw [exec_inaux_of_level hl, auxByte_eq_ofNat]⟩

/-! ### QUERY (43 R200) -/

theorem oneShotMode_eq_false_iff {m : BitVec 3} : oneShotMode m = false ↔ m = 2 ∨ m = 3 := by
  simp [oneShotMode, or_iff_not_imp_left]

theorem queryBody_of_stopped {s : State} (h : s.ch0.running = false) :
    queryBody s = .ok (s.returnQuery .noEvent) := by
  simp [queryBody, h]

theorem queryBody_of_periodic_wrap {s : State} (h : wrapSeen s) (ho : oneShotMode s.ch0.mode = false) :
    queryBody s = .ok (queryKeepRunning (liveCount s.cfg s.ch0 s.now) ((s.emit .lower).emit .raise)) := by
  simp [queryBody, h, ho]

theorem queryBody_of_oneShot_wrap {s : State} (h : wrapSeen s) (ho : oneShotMode s.ch0.mode = true) :
    queryBody s =
      .ok ({ (s.emit .lower).emit .raise with ch0 := { s.ch0 with running := false } }.returnQuery .noEvent) := by
  simp [queryBody, h, ho]

theorem queryBody_of_no_wrap {s : State} (hr : s.ch0.running = true) (h : ¬ wrapSeen s) :
    queryBody s = .ok (queryKeepRunning (liveCount s.cfg s.ch0 s.now) s) := by
  have hw : ¬ s.ch0.lastCount < liveCount s.cfg s.ch0 s.now := fun hw => h ⟨hr, hw⟩
  simp [queryBody, hr, hw]

/-- Settles O26: `queryBody` at each of its four endings. -/
theorem queryDetectsTheWrap : Obligations.QueryDetectsTheWrap := by
  intro s
  rw [exec_eq_runOp]
  refine ⟨fun hr => ?_, fun hw hm => ?_, fun hw h2 h3 => ?_, fun hr hw => ?_⟩
  · exact runOp_of_ok (queryBody_of_stopped (s := quiet s) hr)
  · have ho : oneShotMode s.ch0.mode = false := oneShotMode_eq_false_iff.2 hm
    exact runOp_of_ok (queryBody_of_periodic_wrap (s := quiet s) hw ho)
  · have ho : oneShotMode s.ch0.mode = true := by
      rw [← Bool.not_eq_false, oneShotMode_eq_false_iff, not_or]
      exact ⟨h2, h3⟩
    exact runOp_of_ok (queryBody_of_oneShot_wrap (s := quiet s) hw ho)
  · exact runOp_of_ok (queryBody_of_no_wrap (s := quiet s) hr hw)

/-- The four endings exhaust the states. -/
theorem query_cases (s : State) :
    s.ch0.running = false ∨ (wrapSeen s ∧ (s.ch0.mode = 2 ∨ s.ch0.mode = 3)) ∨
      (wrapSeen s ∧ s.ch0.mode ≠ 2 ∧ s.ch0.mode ≠ 3) ∨ (s.ch0.running = true ∧ ¬ wrapSeen s) := by
  cases hr : s.ch0.running with
  | false => exact .inl rfl
  | true =>
    by_cases hw : wrapSeen s
    · by_cases hm : s.ch0.mode = 2 ∨ s.ch0.mode = 3
      · exact .inr (.inl ⟨hw, hm⟩)
      · exact .inr (.inr (.inl ⟨hw, not_or.1 hm⟩))
    · exact .inr (.inr (.inr ⟨rfl, hw⟩))

/-! ### RESET (70 R250 to R252) -/

/-- Settles O27: each channel's record is its power-on record. -/
theorem resetRestoresThePowerOnChannels : Obligations.ResetRestoresThePowerOnChannels := by
  intro s
  rw [exec_eq_runOp]
  refine runOp_of_ok ?_
  simp only [bodyOf, resetBody, resetChannel_eq]
  rfl

/-- Settles O28: each field of the power-on state. -/
theorem powerOnValues : Obligations.PowerOnValues := by
  refine ⟨fun c => ?_, rfl, rfl, rfl, rfl, rfl, rfl, rfl⟩
  cases c <;> rfl

theorem exec_reset_next {s t : State} (h : exec .reset s = .next t) :
    quiet t = t ∧ (∀ c, t.ch c = Channel.reset c) ∧ t.auxFf = false := by
  rw [resetRestoresThePowerOnChannels s] at h
  cases h
  exact ⟨rfl, fun c => by cases c <;> rfl, rfl⟩

/-- Settles O29: each operation's equation at the power-on records. -/
theorem afterResetNothingIsProgrammed : Obligations.AfterResetNothingIsProgrammed := by
  intro s t h
  obtain ⟨hq, hch, haux⟩ := exec_reset_next h
  have h0 : t.ch0 = Channel.reset .c0 := hch .c0
  have h1 : t.ch1 = Channel.reset .c1 := hch .c1
  have h2 : t.ch2 = Channel.reset .c2 := hch .c2
  refine ⟨?_, fun c => exec_ind_of_error ?_, fun c b => exec_outd_of_error ?_, ?_, fun spare => ?_⟩
  · have hr : t.ch0.running = false := by rw [h0]; rfl
    rw [(queryDetectsTheWrap t).1 hr, hq]
  · rw [hch]
    rfl
  · rw [hch]
    rfl
  · have hl : outputLevel t.cfg t.ch2 t.now = .ok false := by rw [h2]; rfl
    rw [exec_inaux_of_level hl, hq, haux]
    rfl
  · rw [readbackLatchesTheSelectedChannels, hq]
    · simp [h0, h1, h2, readBack, Channel.reset, levelOf, outputLevel, statusNumber]
    · rintro c - - - ⟨hc, -⟩
      rw [hch] at hc
      exact hc rfl

end Sys2Proof.Proofs.Operations
end

section
/-! PROOFS. What each operation leaves unchanged, and when it faults (10_state.md R24, R47; 42_port_dispatch.md R173;
60_exceptions.md R221 to R224): the effect of an operation on one channel, said once, and what follows from it. -/

namespace Sys2Proof.Proofs.Frames

open Sys2Proof Sys2Proof.Machine Sys2Proof.Claims
open Sys2Proof.Proofs.ChannelOps Sys2Proof.Proofs.Counting Sys2Proof.Proofs.Scheduler Sys2Proof.Proofs.Exceptions
open Sys2Proof.Proofs.Operations

/-! ### The effect of an operation on one channel -/

/-- Everything operation `i` can leave in channel `c` when it starts from `s`. -/
inductive Effect (i : Instr) (s : State) (c : Chan) (y : Channel) : Prop where
  | kept (hy : y = s.ch c)
  | latched (g : BitVec 4) (hi : i = .latch c g) (hy : y = readBack s.cfg true false (s.ch c) s.now)
  | configured (a : Access) (m : BitVec 3) (b : Bool) (hi : i = .modeset c a m b)
      (hy : y = configureChannel a m b (s.ch c))
  | readBack (mask : BitVec 3) (cnt sta spare : Bool) (hi : i = .readback mask cnt sta spare)
      (hm : maskBit mask c = true) (hy : y = Claims.readBack s.cfg cnt sta (s.ch c) s.now)
  | written (b : Byte) (hi : i = .outd c b) (hy : writeData s.cfg (s.ch c) b s.now = .ok y)
  | read (v : Byte) (hi : i = .ind c) (hy : readData s.cfg (s.ch c) s.now = .ok (y, v))
  | queried (hi : i = .query) (hc : c = .c0) (hr : (s.ch c).running = true)
      (hy : y = { s.ch c with running := false } ∨
        y = { s.ch c with lastCount := liveCount s.cfg (s.ch c) s.now })
  | reset (hi : i = .reset) (hy : y = Channel.reset c)

theorem latchCounter_eq (cfg : Config) (ch : Channel) (now : Nat) :
    latchCounter cfg ch now = readBack cfg true false ch now :=
  latchCounter_eq_readBack cfg ch now true

theorem turnResult_eq {cfg : Config} {mask : BitVec 3} {cnt sta : Bool} {now : Nat} {c : Chan} {x y : Channel}
    (h : TurnResult cfg mask cnt sta now c x y) : y = turned mask cnt sta c cfg x now := by
  have hok : turnChannel mask cnt sta c cfg x now = .ok y := by
    obtain ⟨hm, rfl⟩ | ⟨hm, ⟨rfl, rfl⟩ | ⟨rfl, hl⟩⟩ := h
    · simp [turnChannel, hm]
    · simp [turnChannel, hm]
    · simpa [turnChannel, hm] using hl
  by_cases hf : TurnFaults mask sta c x
  · rw [turnChannel_of_fault hf] at hok
    cases hok
  · rw [turnChannel_of_not_fault hf] at hok
    cases hok
    rfl

theorem effect_of_turn {mask : BitVec 3} {cnt sta spare : Bool} {s : State} {c : Chan} {y : Channel}
    (h : TurnResult s.cfg mask cnt sta s.now c (s.ch c) y) : Effect (.readback mask cnt sta spare) s c y := by
  have hy := turnResult_eq h
  cases hm : maskBit mask c with
  | false => exact .kept (by rw [hy, turned, hm]; rfl)
  | true => exact .readBack mask cnt sta spare rfl hm (by rw [hy, turned, hm]; rfl)

/-- Writing one channel leaves in any channel the record written or what was there. -/
theorem effect_setCh {i : Instr} {s : State} {c d : Chan} {x : Channel} (h : Effect i s d x) :
    Effect i s c ((s.setCh d x).ch c) := by
  obtain rfl | hc := eq_or_ne c d
  · rwa [State.ch_setCh_same]
  · exact .kept (State.ch_setCh_other s d c x hc)

theorem effect_of_query {s t : State} (h : queryBody s.clearOutputs = .ok t) (c : Chan) :
    Effect .query s c (t.ch c) := by
  have keep : ∀ d, d ≠ .c0 → t.ch d = s.ch d := fun d hd => (queryBody_ignoresChannel hd).ch_eq (s := s.clearOutputs) h
  cases c with
  | c1 => exact .kept (keep .c1 (by decide))
  | c2 => exact .kept (keep .c2 (by decide))
  | c0 =>
    obtain ⟨hr, e⟩ | ⟨hr, -, -, e⟩ | ⟨hr, -, -, e⟩ | ⟨hr, -, e⟩ := queryBody_cases s.clearOutputs <;>
      rw [e] at h <;> cases h
    · exact .kept rfl
    · exact .queried rfl rfl hr (.inl rfl)
    · exact .queried rfl rfl hr (.inr rfl)
    · exact .queried rfl rfl hr (.inr rfl)

theorem exec_effect {i : Instr} {s t : State} (h : exec i s = .next t) (c : Chan) : Effect i s c (t.ch c) := by
  obtain ⟨r, -, rfl⟩ | ⟨d, g, rfl, rfl⟩ | ⟨d, a, m, b, rfl, rfl⟩ |
    ⟨mask, cnt, sta, spare, y0, y1, y2, rfl, rfl, h0, h1, h2⟩ | ⟨d, b, x, rfl, hx, rfl⟩ | ⟨d, x, v, rfl, hx, rfl⟩ |
    ⟨lvl, rfl, -, rfl⟩ | ⟨rfl, hq⟩ | ⟨rfl, rfl⟩ := exec_next_cases h
  · exact .kept rfl
  · rw [← clearOutputs_setCh]
    exact effect_setCh (.latched g rfl (latchCounter_eq ..))
  · rw [State.emitIf_ch, State.emitIf_ch, ← clearOutputs_setCh]
    exact effect_setCh (.configured a m b rfl rfl)
  · cases c with
    | c0 => exact effect_of_turn h0
    | c1 => exact effect_of_turn h1
    | c2 => exact effect_of_turn h2
  · rw [← clearOutputs_setCh]
    exact effect_setCh (.written b rfl hx)
  · rw [State.returnByte_ch, ← clearOutputs_setCh]
    exact effect_setCh (.read v rfl hx)
  · exact .kept (by cases c <;> rfl)
  · exact effect_of_query hq c
  · exact .reset rfl (by cases c <;> rfl)

/-! ### What a data access writes -/

theorem writeData_ok {cfg : Config} {ch y : Channel} {b : Byte} {now : Nat} (h : writeData cfg ch b now = .ok y) :
    (∃ n k, y = { loaded cfg ch n now with wcursor := k }) ∨ y = { ch with interim := b, wcursor := .whi } := by
  obtain ⟨v, k, e, -⟩ | ⟨-, e⟩ | ⟨-, e⟩ := writeData_cases cfg ch b now <;> rw [e] at h <;> cases h
  · exact .inl ⟨v.toNat, k, by rw [loadCount_eq_loaded]⟩
  · exact .inr rfl

/-- A data read writes the two pending flags, `ct_hi` and `rcursor` at most. -/
theorem readData_writes {cfg : Config} {ch y : Channel} {now : Nat} {v : Byte}
    (h : readData cfg ch now = .ok (y, v)) :
    ∃ sp cp hi k, y = { ch with stPend := sp, ctPend := cp, ctHi := hi, rcursor := k } := by
  obtain rfl | rfl | ⟨rfl, -⟩ | rfl | rfl | ⟨rfl, -⟩ | ⟨rfl, -⟩ := readData_ok h <;> exact ⟨_, _, _, _, rfl⟩

/-! ### The writers of each field (R173) -/

section Writers

variable {i : Instr} {s : State} {c : Chan} {y : Channel}

theorem Effect.loadFields (e : Effect i s c y) (hr : i ≠ .reset) (ho : ∀ b, i ≠ .outd c b) :
    y.count = (s.ch c).count ∧ y.lastLoad = (s.ch c).lastLoad ∧ y.lastIrq = (s.ch c).lastIrq ∧
      y.period = (s.ch c).period := by
  cases e with
  | kept hy | latched g hi hy | configured a m b hi hy | readBack mask cnt sta spare hi hm hy =>
    subst hy
    exact ⟨rfl, rfl, rfl, rfl⟩
  | written b hi hy => exact absurd hi (ho b)
  | read v hi hy =>
    obtain ⟨sp, cp, hb, k, rfl⟩ := readData_writes hy
    exact ⟨rfl, rfl, rfl, rfl⟩
  | queried hi hc hrun hy => obtain rfl | rfl := hy <;> exact ⟨rfl, rfl, rfl, rfl⟩
  | reset hi hy => exact absurd hi hr

theorem Effect.keepsDetector (e : Effect i s c y) (hr : i ≠ .reset) (ho : ∀ b, i ≠ .outd c b)
    (hq : ¬ (i = .query ∧ c = .c0)) : KeepsDetector (s.ch c) y := by
  cases e with
  | kept hy | latched g hi hy | configured a m b hi hy | readBack mask cnt sta spare hi hm hy =>
    subst hy
    exact ⟨rfl, rfl⟩
  | written b hi hy => exact absurd hi (ho b)
  | read v hi hy => exact readData_keepsDetector hy
  | queried hi hc hrun hy => exact absurd ⟨hi, hc⟩ hq
  | reset hi hy => exact absurd hi hr

theorem Effect.sameLoad (e : Effect i s c y) (hr : i ≠ .reset) (ho : ∀ b, i ≠ .outd c b)
    (hq : ¬ (i = .query ∧ c = .c0)) : sameLoad (s.ch c) y := by
  obtain ⟨hcount, hload, hirq, hperiod⟩ := e.loadFields hr ho
  obtain ⟨hrun, hlast⟩ := e.keepsDetector hr ho hq
  exact ⟨hcount, hload, hirq, hperiod, hlast, hrun⟩

theorem Effect.sameConfiguration (e : Effect i s c y) (hr : i ≠ .reset) (hm : ∀ a m b, i ≠ .modeset c a m b) :
    sameConfiguration (s.ch c) y := by
  cases e with
  | kept hy | latched g hi hy | readBack mask cnt sta spare hi hsel hy =>
    subst hy
    exact ⟨rfl, rfl, rfl⟩
  | configured a m b hi hy => exact absurd hi (hm a m b)
  | written b hi hy => obtain ⟨n, k, rfl⟩ | rfl := writeData_ok hy <;> exact ⟨rfl, rfl, rfl⟩
  | read v hi hy =>
    obtain ⟨sp, cp, hb, k, rfl⟩ := readData_writes hy
    exact ⟨rfl, rfl, rfl⟩
  | queried hi hc hrun hy => obtain rfl | rfl := hy <;> exact ⟨rfl, rfl, rfl⟩
  | reset hi hy => exact absurd hi hr

theorem Effect.rcursor (e : Effect i s c y) (hr : i ≠ .reset) (hm : ∀ a m b, i ≠ .modeset c a m b)
    (hi : i ≠ .ind c) : y.rcursor = (s.ch c).rcursor := by
  cases e with
  | kept hy | latched g hi hy | readBack mask cnt sta spare hi hsel hy =>
    subst hy
    rfl
  | configured a m b hi hy => exact absurd hi (hm a m b)
  | written b hi hy => obtain ⟨n, k, rfl⟩ | rfl := writeData_ok hy <;> rfl
  | read v hind hy => exact absurd hind hi
  | queried hi hc hrun hy => obtain rfl | rfl := hy <;> rfl
  | reset hi hy => exact absurd hi hr

theorem Effect.wcursor (e : Effect i s c y) (hr : i ≠ .reset) (hm : ∀ a m b, i ≠ .modeset c a m b)
    (ho : ∀ b, i ≠ .outd c b) : y.wcursor = (s.ch c).wcursor := by
  cases e with
  | kept hy | latched g hi hy | readBack mask cnt sta spare hi hsel hy =>
    subst hy
    rfl
  | configured a m b hi hy => exact absurd hi (hm a m b)
  | written b hi hy => exact absurd hi (ho b)
  | read v hi hy => obtain ⟨sp, cp, hb, k, rfl⟩ := readData_writes hy; rfl
  | queried hi hc hrun hy => obtain rfl | rfl := hy <;> rfl
  | reset hi hy => exact absurd hi hr

theorem Effect.interim (e : Effect i s c y) (hr : i ≠ .reset) (ho : ∀ b, i ≠ .outd c b) :
    y.interim = (s.ch c).interim := by
  cases e with
  | kept hy | latched g hi hy | configured a m b hi hy | readBack mask cnt sta spare hi hm hy =>
    subst hy
    rfl
  | written b hi hy => exact absurd hi (ho b)
  | read v hi hy => obtain ⟨sp, cp, hb, k, rfl⟩ := readData_writes hy; rfl
  | queried hi hc hrun hy => obtain rfl | rfl := hy <;> rfl
  | reset hi hy => exact absurd hi hr

theorem Effect.gate_or_reset (e : Effect i s c y) :
    y.gate = (s.ch c).gate ∨ (i = .reset ∧ y = Channel.reset c) := by
  cases e with
  | kept hy | latched g hi hy | configured a m b hi hy | readBack mask cnt sta spare hi hm hy =>
    subst hy
    exact .inl rfl
  | written b hi hy => obtain ⟨n, k, rfl⟩ | rfl := writeData_ok hy <;> exact .inl rfl
  | read v hi hy =>
    obtain ⟨sp, cp, hb, k, rfl⟩ := readData_writes hy
    exact .inl rfl
  | queried hi hc hrun hy => obtain rfl | rfl := hy <;> exact .inl rfl
  | reset hi hy => exact .inr ⟨hi, hy⟩

theorem Effect.gate (e : Effect i s c y) (hr : i ≠ .reset) : y.gate = (s.ch c).gate :=
  e.gate_or_reset.resolve_right fun h => hr h.1

theorem Effect.sameLatches (e : Effect i s c y) (hr : i ≠ .reset) (hl : ∀ g, i ≠ .latch c g) (hi : i ≠ .ind c)
    (hb : ∀ mask cnt sta spare, i = .readback mask cnt sta spare → maskBit mask c = false) :
    sameLatches (s.ch c) y := by
  cases e with
  | kept hy | configured a m b hi hy =>
    subst hy
    exact ⟨rfl, rfl, rfl, rfl, rfl, rfl⟩
  | latched g hi hy => exact absurd hi (hl g)
  | readBack mask cnt sta spare hi hsel hy => exact absurd hsel (by simp [hb mask cnt sta spare hi])
  | written b hi hy => obtain ⟨n, k, rfl⟩ | rfl := writeData_ok hy <;> exact ⟨rfl, rfl, rfl, rfl, rfl, rfl⟩
  | read v hind hy => exact absurd hind hi
  | queried hi hc hrun hy => obtain rfl | rfl := hy <;> exact ⟨rfl, rfl, rfl, rfl, rfl, rfl⟩
  | reset hi hy => exact absurd hi hr

/-- A pending latch is kept by every effect but RESET's (10 R47). -/
theorem Effect.pendingLatches (e : Effect i s c y) (hr : i ≠ .reset) :
    ((s.ch c).stPend = true → y.statusLatch = (s.ch c).statusLatch) ∧
      ((s.ch c).ctPend = true → y.counterLatch = (s.ch c).counterLatch ∧ y.ctMode = (s.ch c).ctMode) := by
  cases e with
  | kept hy | configured a m b hi hy =>
    subst hy
    exact ⟨fun _ => rfl, fun _ => ⟨rfl, rfl⟩⟩
  | latched g hi hy | readBack mask cnt sta spare hi hsel hy =>
    subst hy
    refine ⟨fun hs => ?_, fun hc => ⟨?_, ?_⟩⟩
    · simp [Claims.readBack, hs]
    · simp [Claims.readBack, hc]
    · simp [Claims.readBack, hc]
  | written b hi hy =>
    obtain ⟨n, k, rfl⟩ | rfl := writeData_ok hy <;> exact ⟨fun _ => rfl, fun _ => ⟨rfl, rfl⟩⟩
  | read v hind hy =>
    obtain ⟨sp, cp, hb, k, rfl⟩ := readData_writes hy
    exact ⟨fun _ => rfl, fun _ => ⟨rfl, rfl⟩⟩
  | queried hi hc hrun hy => obtain rfl | rfl := hy <;> exact ⟨fun _ => rfl, fun _ => ⟨rfl, rfl⟩⟩
  | reset hi hy => exact absurd hi hr

/-- An effect of an operation that does not address the channel is none (10 R24). -/
theorem Effect.eq_of_not_addressed (e : Effect i s c y) (hr : i ≠ .reset) (hl : ∀ g, i ≠ .latch c g)
    (hm : ∀ a m b, i ≠ .modeset c a m b) (ho : ∀ b, i ≠ .outd c b) (hi : i ≠ .ind c)
    (hq : ¬ (i = .query ∧ c = .c0))
    (hb : ∀ mask cnt sta spare, i = .readback mask cnt sta spare → maskBit mask c = false) : y = s.ch c := by
  cases e with
  | kept hy => exact hy
  | latched g hi hy => exact absurd hi (hl g)
  | configured a m b hi hy => exact absurd hi (hm a m b)
  | readBack mask cnt sta spare hi hsel hy => exact absurd hsel (by simp [hb mask cnt sta spare hi])
  | written b hi hy => exact absurd hi (ho b)
  | read v hind hy => exact absurd hind hi
  | queried hi hc hrun hy => exact absurd ⟨hi, hc⟩ hq
  | reset hi hy => exact absurd hi hr

/-- Only a load starts a channel (43 R203). -/
theorem Effect.running_eq_false (e : Effect i s c y) (ho : ∀ b, i ≠ .outd c b) (h : (s.ch c).running = false) :
    y.running = false := by
  cases e with
  | kept hy | latched g hi hy | configured a m b hi hy | readBack mask cnt sta spare hi hm hy =>
    subst hy
    exact h
  | written b hi hy => exact absurd hi (ho b)
  | read v hi hy => exact (readData_keepsDetector hy).1.trans h
  | queried hi hc hrun hy => rw [h] at hrun; cases hrun
  | reset hi hy =>
    subst hy
    rfl

end Writers

/-! ### The fields outside the channels -/

/-- QUERY writes channel 0 and the two outputs it has. -/
theorem queryBody_writes {s t : State} (h : queryBody s = .ok t) :
    ∃ x q es, t = { s with ch0 := x, qresult := some q, events := es } := by
  obtain ⟨-, e⟩ | ⟨-, -, -, e⟩ | ⟨-, -, -, e⟩ | ⟨-, -, e⟩ := queryBody_cases s <;> rw [e] at h <;> cases h <;>
    exact ⟨_, _, _, rfl⟩

/-- Outside the channels and the outputs an operation writes `faulted`, by a fault, and `aux_ff`. -/
theorem exec_frame {i : Instr} {s t : State} (h : exec i s = .next t) :
    (∃ r, bodyOf i s.clearOutputs = .error r ∧ t = s.enterFault r) ∨
      ((t.cfg = s.cfg ∧ t.requests = s.requests ∧ t.now = s.now ∧ t.tMax = s.tMax) ∧ t.faulted = s.faulted ∧
        (i ≠ .reset → i ≠ .inaux → t.auxFf = s.auxFf)) := by
  obtain hf | ⟨d, g, -, rfl⟩ | ⟨d, a, m, b, -, rfl⟩ | ⟨mask, cnt, sta, spare, y0, y1, y2, -, rfl, -⟩ |
    ⟨d, b, x, -, -, rfl⟩ | ⟨d, x, v, -, -, rfl⟩ | ⟨lvl, rfl, -, rfl⟩ | ⟨-, hq⟩ | ⟨rfl, rfl⟩ := exec_next_cases h
  · exact .inl hf
  · simp
  · simp
  · simp
  · simp
  · simp
  · simp
  · obtain ⟨x, q, es, rfl⟩ := queryBody_writes hq
    simp
  · simp

/-- Settles O45: a fault leaves these fields as any other ending does. -/
theorem operationsKeepParametersAndInterface : Obligations.OperationsKeepParametersAndInterface := by
  intro i s t h
  obtain ⟨r, -, rfl⟩ | ⟨hkept, -, -⟩ := exec_frame h
  · exact ⟨rfl, rfl, rfl, rfl⟩
  · exact hkept

theorem exec_auxFf {i : Instr} {s t : State} (h : exec i s = .next t) (hr : i ≠ .reset) (hi : i ≠ .inaux) :
    t.auxFf = s.auxFf := by
  obtain ⟨r, -, rfl⟩ | ⟨-, -, haux⟩ := exec_frame h
  · rfl
  · exact haux hr hi

/-! ### The statements on frames -/

/-- Settles O41: case by case on the effect. -/
theorem pendingLatchesAreImmutable : Obligations.PendingLatchesAreImmutable :=
  fun _ _ _ c h hr => (exec_effect h c).pendingLatches hr

/-- Settles O42: one clause for each group of fields. -/
theorem eachFieldHasItsWriters : Obligations.EachFieldHasItsWriters := by
  intro i s t c h hr
  have e := exec_effect h c
  exact ⟨e.sameLoad hr, e.loadFields hr, e.sameConfiguration hr, e.rcursor hr, e.wcursor hr, e.interim hr,
    e.sameLatches hr, exec_auxFf h hr, e.gate hr⟩

/-- Settles O43: every effect but none names an operation that addresses the channel. -/
theorem channelsDoNotDisturbEachOther : Obligations.ChannelsDoNotDisturbEachOther :=
  fun _ _ _ c h => (exec_effect h c).eq_of_not_addressed

/-- Settles O46: a stopped channel 0 is started by its loads only, and a QUERY finds it stopped. -/
theorem stoppedChannelStaysStoppedUntilReloaded : Obligations.StoppedChannelStaysStoppedUntilReloaded := by
  intro i s t h hs ho
  have ht : t.ch0.running = false := (exec_effect h .c0).running_eq_false ho hs
  exact ⟨ht, (queryDetectsTheWrap t).1 ht⟩

/-! ### The BCD report (42 R167) -/

theorem exec_modeset_events {c : Chan} {a : Access} {m : BitVec 3} {b : Bool} {s t : State}
    (h : exec (.modeset c a m b) s = .next t) : t.events.count .bcdUnsupported = if b then 1 else 0 := by
  rw [exec_modeset_eq] at h
  cases h
  cases b <;> cases mode2Quirk c m <;> rfl

/-- Settles O40: the only other emitter is QUERY, which makes interrupt calls only. -/
theorem bcdIsReportedByModesetOnly : Obligations.BcdIsReportedByModesetOnly := by
  intro i s t h
  refine ⟨?_, fun hno => ?_⟩
  · rintro ⟨c, a, m, rfl⟩
    exact exec_modeset_events h
  · obtain rfl | ⟨c, a, m, b, rfl⟩ | hnil := emitter_or_events_eq_nil h
    · rw [exec_query_events h]
      split <;> rfl
    · cases b with
      | true => exact absurd ⟨c, a, m, rfl⟩ hno
      | false => exact exec_modeset_events h
    · rw [hnil]
      rfl

/-! ### Faults (60 R221 to R223) -/

theorem readCounterLatch_eq_error {ch : Channel} {r : Fault} (h : readCounterLatch ch = .error r) :
    r = .unprogrammedAccess ∧ ch.ctMode = 0 := by
  obtain ⟨hm, e⟩ | ⟨-, e⟩ | ⟨-, -, e⟩ | ⟨-, -, e⟩ := readCounterLatch_cases ch <;> rw [e] at h <;> cases h
  exact ⟨rfl, hm⟩

theorem readLive_eq_error {cfg : Config} {ch : Channel} {now : Nat} {r : Fault}
    (h : readLive cfg ch now = .error r) : r = .unprogrammedAccess ∧ ch.rcursor = .unprog := by
  obtain ⟨-, e⟩ | ⟨-, e⟩ | ⟨-, e⟩ | ⟨-, e⟩ | ⟨hr, e⟩ := readLive_cases cfg ch now <;> rw [e] at h <;> cases h
  exact ⟨rfl, hr⟩

theorem readData_eq_error {cfg : Config} {ch : Channel} {now : Nat} {r : Fault}
    (h : readData cfg ch now = .error r) :
    r = .unprogrammedAccess ∧ ch.stPend = false ∧
      (ch.ctPend = true ∧ ch.ctMode = 0 ∨ ch.ctPend = false ∧ ch.rcursor = .unprog) := by
  obtain ⟨-, e⟩ | ⟨hs, hc, e⟩ | ⟨hs, hc, e⟩ := readData_cases cfg ch now <;> rw [e] at h
  · cases h
  · obtain ⟨hr, hm⟩ := readCounterLatch_eq_error h
    exact ⟨hr, hs, .inl ⟨hc, hm⟩⟩
  · obtain ⟨hr, hm⟩ := readLive_eq_error h
    exact ⟨hr, hs, .inr ⟨hc, hm⟩⟩

theorem writeData_eq_error {cfg : Config} {ch : Channel} {b : Byte} {now : Nat} {r : Fault}
    (h : writeData cfg ch b now = .error r) : r = .unprogrammedAccess ∧ ch.wcursor = .unprog := by
  obtain ⟨v, k, e, -⟩ | ⟨-, e⟩ | ⟨hw, e⟩ := writeData_cases cfg ch b now <;> rw [e] at h <;> cases h
  exact ⟨rfl, hw⟩

theorem readbackBody_eq_error {mask : BitVec 3} {cnt sta : Bool} {s : State} {r : Fault}
    (h : readbackBody mask cnt sta s = .error r) : r = .undefinedMode ∧ ∃ d, TurnFaults mask sta d (s.ch d) := by
  by_cases hf : ∃ d, TurnFaults mask sta d (s.ch d)
  · rw [readbackBody_of_fault cnt hf] at h
    cases h
    exact ⟨rfl, hf⟩
  · rw [readbackBody_of_no_fault cnt (not_exists.1 hf)] at h
    cases h

theorem outdBody_eq_error {c : Chan} {b : Byte} {s : State} {r : Fault} (h : outdBody c b s = .error r) :
    r = .unprogrammedAccess ∧ (s.ch c).wcursor = .unprog := by
  unfold outdBody at h
  split at h
  next => cases h
  next hw => cases h; exact writeData_eq_error hw

theorem indBody_eq_error {c : Chan} {s : State} {r : Fault} (h : indBody c s = .error r) :
    r = .unprogrammedAccess ∧ (s.ch c).stPend = false ∧
      ((s.ch c).ctPend = true ∧ (s.ch c).ctMode = 0 ∨ (s.ch c).ctPend = false ∧ (s.ch c).rcursor = .unprog) := by
  unfold indBody at h
  split at h
  next => cases h
  next hd => cases h; exact readData_eq_error hd

theorem inauxBody_eq_error {s : State} {r : Fault} (h : inauxBody s = .error r) :
    r = .undefinedMode ∧ levelUndefined s.ch2 := by
  simp only [inauxBody] at h
  split at h
  next => cases h
  next hl => cases h; exact outputLevel_eq_error_iff.1 hl

theorem queryBody_ne_error (s : State) (r : Fault) : queryBody s ≠ .error r := by
  obtain ⟨-, e⟩ | ⟨-, -, -, e⟩ | ⟨-, -, -, e⟩ | ⟨-, -, e⟩ := queryBody_cases s <;> simp [e]

theorem bodyOf_outd (c : Chan) (b : Byte) : bodyOf (.outd c b) = outdBody c b := by cases c <;> rfl

theorem bodyOf_ind (c : Chan) : bodyOf (.ind c) = indBody c := by cases c <;> rfl

/-- A body that faults has one of the causes of the statement. -/
theorem raises_of_error {i : Instr} {s : State} {r : Fault} (h : bodyOf i s.clearOutputs = .error r) :
    Raises i s r := by
  obtain ⟨c, g, rfl⟩ | ⟨c, a, m, b, rfl⟩ | ⟨mask, cnt, sta, spare, rfl⟩ | ⟨c, b, rfl⟩ | ⟨c, rfl⟩ | rfl | rfl | rfl |
    rfl := Instr.kinds i
  · cases c <;> cases h
  · cases c <;> cases a <;> cases h
  · obtain ⟨hr, d, hm, rfl, hs, hu⟩ := readbackBody_eq_error (s := s.clearOutputs) h
    exact .inr (.inr ⟨hr, .inr ⟨mask, cnt, spare, d, rfl, hm, hs, hu⟩⟩)
  · rw [bodyOf_outd] at h
    obtain ⟨hr, hw⟩ := outdBody_eq_error h
    exact .inr (.inl ⟨hr, c, .inl ⟨b, rfl, hw⟩⟩)
  · rw [bodyOf_ind] at h
    obtain ⟨hr, hs, hc⟩ := indBody_eq_error h
    exact .inr (.inl ⟨hr, c, .inr ⟨rfl, hs, hc⟩⟩)
  · cases h
    exact .inl ⟨rfl, rfl⟩
  · obtain ⟨hr, hu⟩ := inauxBody_eq_error (s := s.clearOutputs) h
    exact .inr (.inr ⟨hr, .inl ⟨rfl, hu⟩⟩)
  · exact absurd h (queryBody_ne_error _ r)
  · cases h

theorem exec_of_raises {i : Instr} {s : State} {r : Fault} (h : Raises i s r) :
    exec i s = .next (faultedFrom s r) := by
  obtain ⟨rfl, rfl⟩ | ⟨rfl, c, ⟨b, rfl, hw⟩ | ⟨rfl, hs, ⟨hc, hm⟩ | ⟨hc, hr⟩⟩⟩ |
    ⟨rfl, ⟨rfl, hu⟩ | ⟨mask, cnt, spare, d, rfl, hm, hs, hu⟩⟩ := h
  · exact incmdEntersTheFaultedState s
  · exact exec_outd_of_error (writeData_unprog hw ..)
  · exact exec_ind_of_error (by rw [readData_of_counter hs hc, readCounterLatch, hm]; rfl)
  · exact exec_ind_of_error (by rw [readData_of_live hs hc, readLive, hr])
  · exact exec_inaux_of_fault (outputLevel_of_levelUndefined _ _ _ hu)
  · exact exec_readback_of_fault cnt spare ⟨d, hm, rfl, hs, hu⟩

theorem exec_total (i : Instr) (s : State) : ∃ t, exec i s = .next t := by
  rw [exec_eq_runOp]
  cases hb : bodyOf i s.clearOutputs with
  | ok t => exact ⟨t, runOp_of_ok hb⟩
  | error r => exact ⟨_, runOp_of_error hb⟩

/-- Settles O38: a body faults exactly for the causes listed, and one that does not leaves `faulted`. -/
theorem faultsExactly : Obligations.FaultsExactly := by
  intro i s
  refine ⟨fun r => exec_of_raises, fun hno => ?_⟩
  obtain ⟨t, ht⟩ := exec_total i s
  obtain ⟨r, hr, -⟩ | ⟨-, hf, -⟩ := exec_frame ht
  · exact absurd (raises_of_error hr) (hno r)
  · exact ⟨t, ht, hf⟩

/-! ### What QUERY and INAUX read (10 R24) -/

/-- Two states that agree on the parameters, the time and channel 0 answer QUERY alike. -/
theorem exec_query_congr {s s' t t' : State} (hcfg : s'.cfg = s.cfg) (hnow : s'.now = s.now) (hch : s'.ch0 = s.ch0)
    (h : exec .query s = .next t) (h' : exec .query s' = .next t') :
    t'.qresult = t.qresult ∧ t'.events = t.events ∧ t'.ch0 = t.ch0 := by
  obtain ⟨q1, q2, q3, q4⟩ := queryDetectsTheWrap s
  obtain ⟨q1', q2', q3', q4'⟩ := queryDetectsTheWrap s'
  have hwrap : wrapSeen s' = wrapSeen s := by rw [wrapSeen, hcfg, hnow, hch]
  rw [hch] at q1'
  rw [hwrap, hch, hcfg, hnow] at q2' q4'
  rw [hwrap, hch] at q3'
  obtain hr | ⟨hw, hm⟩ | ⟨hw, h2, h3⟩ | ⟨hr, hw⟩ := query_cases s
  · cases (q1 hr).symm.trans h
    cases (q1' hr).symm.trans h'
    exact ⟨rfl, rfl, hch⟩
  · cases (q2 hw hm).symm.trans h
    cases (q2' hw hm).symm.trans h'
    exact ⟨rfl, rfl, rfl⟩
  · cases (q3 hw h2 h3).symm.trans h
    cases (q3' hw h2 h3).symm.trans h'
    exact ⟨rfl, rfl, rfl⟩
  · cases (q4 hr hw).symm.trans h
    cases (q4' hr hw).symm.trans h'
    exact ⟨rfl, rfl, rfl⟩

/-- Two states that agree on the parameters, the time, channel 2 and `aux_ff` answer INAUX alike. -/
theorem exec_inaux_congr {s s' t t' : State} (hcfg : s'.cfg = s.cfg) (hnow : s'.now = s.now) (hch : s'.ch2 = s.ch2)
    (hff : s'.auxFf = s.auxFf) (h : exec .inaux s = .next t) (h' : exec .inaux s' = .next t') :
    t'.rdata = t.rdata ∧ t'.auxFf = t.auxFf ∧ (s'.faulted = s.faulted → t'.faulted = t.faulted) := by
  have hlevel : outputLevel s'.cfg s'.ch2 s'.now = outputLevel s.cfg s.ch2 s.now := by rw [hcfg, hnow, hch]
  cases hl : outputLevel s.cfg s.ch2 s.now with
  | ok lvl =>
    cases (exec_inaux_of_level hl).symm.trans h
    cases (exec_inaux_of_level (hlevel.trans hl)).symm.trans h'
    simp [hff, quiet]
  | error r =>
    cases (exec_inaux_of_fault hl).symm.trans h
    cases (exec_inaux_of_fault (hlevel.trans hl)).symm.trans h'
    exact ⟨rfl, hff, fun _ => rfl⟩

/-- Settles O44: the two congruences. -/
theorem channel0FeedsQueryAndChannel2FeedsInaux : Obligations.Channel0FeedsQueryAndChannel2FeedsInaux :=
  fun _ _ _ _ hcfg hnow => ⟨exec_query_congr hcfg hnow, exec_inaux_congr hcfg hnow⟩

end Sys2Proof.Proofs.Frames
end

section
/-! PROOFS. The step (60_exceptions.md R226): what admission does with the oldest operation, and time. -/

namespace Sys2Proof.Proofs.Steps

open Sys2Proof Sys2Proof.Machine Sys2Proof.Claims
open Sys2Proof.Proofs.Frames

/-! ### The checks of admission -/

theorem hasTime_iff {i : Instr} : hasTime i = true ↔ i ≠ .reset := by
  cases i <;> simp [hasTime]

theorem timeRegresses_iff {s : State} {now : Nat} : timeRegresses s now = true ↔ ∃ m, s.tMax = some m ∧ now < m := by
  cases h : s.tMax <;> simp [timeRegresses, h]

theorem timeRegresses_eq_false_iff {s : State} {now : Nat} :
    timeRegresses s now = false ↔ ∀ m, s.tMax = some m → m ≤ now := by
  rw [← Bool.not_eq_true, timeRegresses_iff]
  push Not
  rfl

theorem decodeWord_eq_instr_iff {cfg : Config} {w : Nat} {i : Instr} :
    decodeWord cfg w = .instr i ↔ w < 8192 ∧ decode cfg (BitVec.ofNat 13 w) = .instr i := by
  by_cases h : w < 8192 <;> simp [decodeWord, wordFits, h]

theorem exists_decodeWord_eq_illegal_iff {cfg : Config} {w : Nat} :
    (∃ why, decodeWord cfg w = .illegal why) ↔
      8192 ≤ w ∨ ∃ why, decode cfg (BitVec.ofNat 13 w) = .illegal why := by
  by_cases h : w < 8192
  · simp [decodeWord, wordFits, h]
  · simp [decodeWord, wordFits, h]
    omega

/-! ### The answers of a step -/

theorem step_of_faulted {s : State} {r : Fault} (h : s.faulted = some r) : step s = .refused .faulted := by
  simp [step, admission, h]

theorem step_of_idle {s : State} (hf : s.faulted = none) (hq : s.requests = []) : step s = .next s := by
  simp [step, admission, hf, hq]

section Waiting

variable {s : State} {r : Request} {rest : List Request} {i : Instr}

theorem step_of_illegal {why : Illegal} (hf : s.faulted = none) (hq : s.requests = r :: rest)
    (hd : decodeWord s.cfg r.word = .illegal why) : step s = .refused .illegalTransaction := by
  simp [step, admission, hf, hq, admissionOf, hd]

theorem step_of_regression (hf : s.faulted = none) (hq : s.requests = r :: rest)
    (hd : decodeWord s.cfg r.word = .instr i) (hi : i ≠ .reset) (ht : timeRegresses s r.now = true) :
    step s = .refused .timeRegression := by
  simp [step, admission, hf, hq, admissionOf, hd, hasTime_iff.2 hi, ht]

theorem step_of_accepted (hf : s.faulted = none) (hq : s.requests = r :: rest)
    (hd : decodeWord s.cfg r.word = .instr i) (ht : i ≠ .reset → timeRegresses s r.now = false) :
    step s = exec i (accept i r rest s) := by
  have hchecks : (hasTime i && timeRegresses s r.now) = false := by
    rw [Bool.and_eq_false_imp, hasTime_iff]
    exact ht
  simp [step, admission, hf, hq, admissionOf, hd, hchecks]

end Waiting

theorem accept_of_ne_reset {i : Instr} (h : i ≠ .reset) (r : Request) (rest : List Request) (s : State) :
    accept i r rest s = { s with requests := rest, now := r.now, tMax := some r.now } :=
  if_pos (hasTime_iff.2 h)

/-! ### The statements on steps -/

/-- Settles O30: the accepted operation, with the state admission hands it written out. -/
theorem stepRunsTheDecodedOperation : Obligations.StepRunsTheDecodedOperation := by
  intro s w now rest i hf hq hw hd
  have hdw : decodeWord s.cfg w = .instr i := decodeWord_eq_instr_iff.2 ⟨hw, hd⟩
  refine ⟨?_, fun hi ht => ?_⟩
  · rintro rfl
    exact step_of_accepted hf hq hdw fun h => absurd rfl h
  · rw [step_of_accepted hf hq hdw fun _ => timeRegresses_eq_false_iff.2 ht, accept_of_ne_reset hi]

/-- Settles O32: the idle answer of admission. -/
theorem idleStepHoldsTheState : Obligations.IdleStepHoldsTheState := fun _ => step_of_idle

/-- Settles O33: the time beside the placed word is no regression. -/
theorem placedWordIsTheNextOperation : Obligations.PlacedWordIsTheNextOperation := by
  intro s nbits w i hf hd
  have ht : timeRegresses (s.withFetchWord nbits w) (s.tMax.getD 0) = false := by
    rw [timeRegresses_eq_false_iff]
    intro m hm
    have htm : s.tMax = some m := hm
    simp [htm]
  have hstep := step_of_accepted (s := s.withFetchWord nbits w) hf rfl hd fun _ => ht
  rw [hstep]
  split
  next hi => subst hi; rfl
  next hi => rw [accept_of_ne_reset hi]; rfl

theorem step_ne_fault (s : State) (r : Fault) : step s ≠ .fault r := by
  unfold step
  split
  · exact fun h => by cases h
  · exact fun h => by cases h
  next i t _ =>
    obtain ⟨u, hu⟩ := exec_total i t
    rw [hu]
    exact fun h => by cases h

theorem refused_eq_refused {a r : Refusal} :
    (Host.Outcome.refused a : Host.Outcome State Fault Refusal) = .refused r ↔ r = a :=
  ⟨fun h => by cases h; rfl, fun h => h ▸ rfl⟩

/-- The checks of a waiting operation, in their order: its word, then its time. -/
theorem step_eq_refused_iff {s : State} {q : Request} {rest : List Request} (hf : s.faulted = none)
    (hq : s.requests = q :: rest) (r : Refusal) :
    step s = .refused r ↔
      (r = .illegalTransaction ∧ ∃ why, decodeWord s.cfg q.word = .illegal why) ∨
        (r = .timeRegression ∧ ∃ i, decodeWord s.cfg q.word = .instr i ∧ i ≠ .reset ∧
          timeRegresses s q.now = true) := by
  cases hd : decodeWord s.cfg q.word with
  | illegal why =>
    rw [step_of_illegal hf hq hd, refused_eq_refused]
    simp
  | instr i =>
    by_cases hreg : i ≠ .reset ∧ timeRegresses s q.now = true
    · rw [step_of_regression hf hq hd hreg.1 hreg.2]
      simp [hreg.1, hreg.2, eq_comm]
    · have hok : i ≠ .reset → timeRegresses s q.now = false := fun hi =>
        Bool.eq_false_iff.2 fun ht => hreg ⟨hi, ht⟩
      obtain ⟨t, ht⟩ := exec_total i (accept i q rest s)
      rw [step_of_accepted hf hq hd hok, ht]
      refine iff_of_false (fun h => by cases h) ?_
      rintro (⟨-, why, he⟩ | ⟨-, j, hj, hne, htr⟩)
      · cases he
      · cases hj
        exact hreg ⟨hne, htr⟩

/-- The two refusals of a waiting operation, in the words of the statement. -/
theorem waiting_refusal_iff {s : State} {w now : Nat} {r : Refusal} :
    ((r = .illegalTransaction ∧ ∃ why, decodeWord s.cfg w = .illegal why) ∨
        (r = .timeRegression ∧ ∃ i, decodeWord s.cfg w = .instr i ∧ i ≠ .reset ∧ timeRegresses s now = true)) ↔
      ((r = .illegalTransaction ∧ (8192 ≤ w ∨ ∃ why, decode s.cfg (BitVec.ofNat 13 w) = .illegal why)) ∨
        (r = .timeRegression ∧ w < 8192 ∧ ∃ i m, decode s.cfg (BitVec.ofNat 13 w) = .instr i ∧
          i ≠ .reset ∧ s.tMax = some m ∧ now < m)) := by
  simp only [exists_decodeWord_eq_illegal_iff, decodeWord_eq_instr_iff, timeRegresses_iff, and_assoc,
    exists_and_left]

/-- Settles O31: the Faulted check, then the two checks of the oldest operation. -/
theorem stepRefusesExactlyAsAdmissionSays : Obligations.StepRefusesExactlyAsAdmissionSays := by
  intro s
  refine ⟨step_ne_fault s, fun r => ?_⟩
  cases hf : s.faulted with
  | some f =>
    rw [step_of_faulted hf, refused_eq_refused]
    simp
  | none =>
    cases hq : s.requests with
    | nil =>
      rw [step_of_idle hf hq]
      simp
    | cons q rest =>
      rw [step_eq_refused_iff hf hq, waiting_refusal_iff]
      refine ⟨fun h => .inr ⟨rfl, q.word, q.now, rest, rfl, h⟩, ?_⟩
      rintro (⟨-, hne⟩ | ⟨-, w, now, rest', e, h⟩)
      · exact absurd rfl hne
      · cases e
        exact h

/-- Settles O37: an admitted operation's time is not below `t_max`, and no operation writes `t_max` itself. -/
theorem timeNeverRegresses : Obligations.TimeNeverRegresses := by
  intro s t h
  obtain ⟨-, ⟨hq, rfl⟩ | ⟨r, rest, i, hq, hd, ht, he⟩⟩ := step_next h
  · refine ⟨fun m hm => ⟨m, hm, le_rfl⟩, fun w now rest hw => ?_⟩
    rw [hq] at hw
    cases hw
  · obtain ⟨-, hreq, -, htmax⟩ := operationsKeepParametersAndInterface i _ t he
    rw [accept_requests] at hreq
    rw [accept_tMax] at htmax
    by_cases hi : i = .reset
    · subst hi
      refine ⟨fun m hm => ⟨m, htmax.trans hm, le_rfl⟩, fun w now rest' hw => ?_⟩
      cases hq.symm.trans hw
      exact ⟨hreq, fun _ => htmax, fun hne => absurd hd hne⟩
    · have htime : hasTime i = true := hasTime_iff.2 hi
      rw [if_pos htime] at htmax
      refine ⟨fun m hm => ⟨r.now, htmax, timeRegresses_eq_false_iff.1 (ht htime) m hm⟩, fun w now rest' hw => ?_⟩
      cases hq.symm.trans hw
      refine ⟨hreq, fun hr => ?_, fun _ => htmax⟩
      cases hd.symm.trans hr
      exact absurd rfl hi

end Sys2Proof.Proofs.Steps
end

section
/-! PROOFS. The invariant (10_state.md section 4): every effect of an operation on a channel keeps it, so every step
does. -/

namespace Sys2Proof.Proofs.Invariant

open Sys2Proof Sys2Proof.Machine Sys2Proof.Claims
open Sys2Proof.Proofs.ChannelOps Sys2Proof.Proofs.Operations Sys2Proof.Proofs.Frames Sys2Proof.Proofs.Steps

theorem inv_iff {s : State} : s.Inv ↔ ∀ c, (s.ch c).Inv s.cfg s.tMax c := by
  constructor
  · rintro ⟨h0, h1, h2⟩ (_ | _ | _)
    · exact h0
    · exact h1
    · exact h2
  · exact fun h => ⟨h .c0, h .c1, h .c2⟩

/-! ### The load fields (R43, R44, R46, R34) -/

theorem loadInv_reset (cfg : Config) (c : Chan) : (Channel.reset c).LoadInv cfg := by
  simp [Channel.LoadInv, Channel.reset, ticksToMicros]

theorem loadInv_load (cfg : Config) (ch : Channel) (v : Half) (now : Nat) : (loadCount cfg ch v now).LoadInv cfg := by
  rw [loadCount_eq]
  have hpos := reloadValue_pos v
  exact ⟨reloadValue_le v, iff_of_false hpos (by simp), rfl, fun _ => hpos, fun h => absurd h hpos,
    fun _ => Nat.pos_of_ne_zero hpos, rfl⟩

section Effects

variable {i : Instr} {s : State} {c : Chan} {y : Channel}

theorem loadInv_of_effect (e : Effect i s c y) (h : (s.ch c).LoadInv s.cfg) : y.LoadInv s.cfg := by
  cases e with
  | kept hy | latched g hi hy | configured a m b hi hy | readBack mask cnt sta spare hi hm hy =>
    subst hy
    exact h
  | written b hi hy =>
    obtain ⟨v, k, e, -⟩ | ⟨-, e⟩ | ⟨-, e⟩ := writeData_cases s.cfg (s.ch c) b s.now <;> rw [e] at hy <;> cases hy
    · exact loadInv_load s.cfg (s.ch c) v s.now
    · exact h
  | read v hi hy =>
    obtain ⟨sp, cp, hb, k, rfl⟩ := readData_writes hy
    exact h
  | queried hi hc hr hy =>
    obtain ⟨hle, hload, hirq, hrun, hzero, hlt, hper⟩ := h
    have hne : (s.ch c).count ≠ 0 := hrun hr
    obtain rfl | rfl := hy
    · exact ⟨hle, hload, hirq, fun hf => absurd hf Bool.false_ne_true, hzero, hlt, hper⟩
    · exact ⟨hle, hload, hirq, hrun, fun h0 => absurd h0 hne, fun _ => liveCount_lt s.cfg (s.ch c) s.now hne, hper⟩
  | reset hi hy =>
    subst hy
    exact loadInv_reset s.cfg c

/-! ### The latch fields (R45) -/

theorem latchInv_reset (c : Chan) : (Channel.reset c).LatchInv := by
  simp [Channel.LatchInv, Channel.reset]

theorem statusNumber_bit6 : ∀ (lvl : Bool) (rw : BitVec 2) (m : BitVec 3) (b : Bool),
    (BitVec.ofNat 8 (statusNumber lvl rw m b)).getLsbD 6 = false := by decide

theorem toNat_frozenCount_lt {rw : BitVec 2} (h : rw = 1 ∨ rw = 2) (n : Nat) : (frozenCount rw n).toNat < 256 := by
  obtain rfl | rfl := h
  · simp [frozenCount]
    omega
  · simp [frozenCount]
    omega

theorem readBack_statusLatch (cfg : Config) (cnt sta : Bool) (ch : Channel) (now : Nat) :
    (readBack cfg cnt sta ch now).statusLatch =
      if sta && !ch.stPend then BitVec.ofNat 8 (statusNumber (levelOf cfg ch now) ch.rwMode ch.mode ch.bcd)
      else ch.statusLatch := rfl

/-- A new counter latch. -/
theorem readBack_counterFields_of_new {cnt : Bool} {ch : Channel} (h : (cnt && !ch.ctPend) = true) (cfg : Config)
    (sta : Bool) (now : Nat) :
    (readBack cfg cnt sta ch now).ctMode = ch.rwMode ∧ (readBack cfg cnt sta ch now).ctHi = false ∧
      (readBack cfg cnt sta ch now).counterLatch = frozenCount ch.rwMode (liveCount cfg ch now) :=
  ⟨if_pos h, if_pos h, if_pos h⟩

/-- No new counter latch: none was requested, or one is pending. -/
theorem readBack_counterFields_of_kept {cnt : Bool} {ch : Channel} (h : (cnt && !ch.ctPend) = false) (cfg : Config)
    (sta : Bool) (now : Nat) :
    (readBack cfg cnt sta ch now).ctPend = ch.ctPend ∧ (readBack cfg cnt sta ch now).ctMode = ch.ctMode ∧
      (readBack cfg cnt sta ch now).ctHi = ch.ctHi ∧
      (readBack cfg cnt sta ch now).counterLatch = ch.counterLatch := by
  refine ⟨?_, by simp [readBack, h], by simp [readBack, h], by simp [readBack, h]⟩
  revert h
  cases cnt <;> cases hc : ch.ctPend <;> simp [readBack, hc]

theorem latchInv_readBack {cfg : Config} {ch : Channel} (h : ch.LatchInv) (cnt sta : Bool) (now : Nat) :
    (readBack cfg cnt sta ch now).LatchInv := by
  obtain ⟨hbyte, hhi, hbit⟩ := h
  have hstatus : (readBack cfg cnt sta ch now).statusLatch.getLsbD 6 = false := by
    rw [readBack_statusLatch]
    split
    · exact statusNumber_bit6 ..
    · exact hbit
  cases hnew : cnt && !ch.ctPend with
  | true =>
    simp only [Channel.LatchInv, readBack_counterFields_of_new hnew]
    exact ⟨fun _ hm => toNat_frozenCount_lt hm _, fun hf => absurd hf Bool.false_ne_true, hstatus⟩
  | false =>
    simp only [Channel.LatchInv, readBack_counterFields_of_kept hnew]
    exact ⟨hbyte, hhi, hstatus⟩

theorem latchInv_readData {cfg : Config} {ch x : Channel} {now : Nat} {v : Byte} (h : ch.LatchInv)
    (hx : readData cfg ch now = .ok (x, v)) : x.LatchInv := by
  obtain ⟨hbyte, hhi, hbit⟩ := h
  obtain ⟨-, e⟩ | ⟨-, hc, e⟩ | ⟨-, -, e⟩ := readData_cases cfg ch now <;> rw [e] at hx
  · cases hx
    exact ⟨hbyte, hhi, hbit⟩
  · obtain ⟨-, e⟩ | ⟨hm, e⟩ | ⟨hm, -, e⟩ | ⟨-, -, e⟩ := readCounterLatch_cases ch <;> rw [e] at hx <;> cases hx
    · refine ⟨fun hf => absurd hf Bool.false_ne_true, fun hh => ?_, hbit⟩
      obtain ⟨-, h3⟩ := hhi hh
      rw [h3] at hm
      exact absurd hm (by decide)
    · exact ⟨hbyte, fun _ => ⟨hc, hm⟩, hbit⟩
    · exact ⟨fun hf => absurd hf Bool.false_ne_true, fun hf => absurd hf Bool.false_ne_true, hbit⟩
  · obtain ⟨-, e⟩ | ⟨-, e⟩ | ⟨-, e⟩ | ⟨-, e⟩ | ⟨-, e⟩ := readLive_cases cfg ch now <;> rw [e] at hx <;> cases hx <;>
      exact ⟨hbyte, hhi, hbit⟩

theorem latchInv_of_effect (e : Effect i s c y) (h : (s.ch c).LatchInv) : y.LatchInv := by
  cases e with
  | kept hy | configured a m b hi hy =>
    subst hy
    exact h
  | latched g hi hy | readBack mask cnt sta spare hi hm hy =>
    subst hy
    exact latchInv_readBack h ..
  | written b hi hy => obtain ⟨n, k, rfl⟩ | rfl := writeData_ok hy <;> exact h
  | read v hi hy => exact latchInv_readData h hy
  | queried hi hc hr hy => obtain rfl | rfl := hy <;> exact h
  | reset hi hy =>
    subst hy
    exact latchInv_reset c

/-! ### The cursors (R46) -/

theorem cursorInv_of_effect (e : Effect i s c y) (h : (s.ch c).CursorInv) : y.CursorInv := by
  cases e with
  | kept hy | latched g hi hy | readBack mask cnt sta spare hi hm hy =>
    subst hy
    exact h
  | configured a m b hi hy =>
    subst hy
    cases a <;> exact ⟨rfl, rfl⟩
  | written b hi hy =>
    obtain ⟨v, k, e, hk⟩ | ⟨hw, e⟩ | ⟨-, e⟩ := writeData_cases s.cfg (s.ch c) b s.now <;> rw [e] at hy <;> cases hy
    · obtain ⟨hr, hw⟩ := h
      refine ⟨hr, ?_⟩
      obtain ⟨hc, -, rfl⟩ | ⟨hc, -, rfl⟩ | ⟨hc, -, rfl⟩ := hk <;> rw [hc] at hw <;> exact hw
    · obtain ⟨hr, hfit⟩ := h
      rw [hw] at hfit
      exact ⟨hr, hfit⟩
  | read v hi hy =>
    obtain ⟨hr, hw⟩ := h
    obtain rfl | rfl | ⟨rfl, -⟩ | rfl | rfl | ⟨rfl, hk⟩ | ⟨rfl, hk⟩ := readData_ok hy
    case inr.inr.inr.inr.inr.inl | inr.inr.inr.inr.inr.inr =>
      rw [hk] at hr
      exact ⟨hr, hw⟩
    all_goals exact ⟨hr, hw⟩
  | queried hi hc hr hy => obtain rfl | rfl := hy <;> exact h
  | reset hi hy =>
    subst hy
    exact ⟨rfl, rfl⟩

/-! ### The times of the loads (40 R110) -/

theorem notAfter_of_effect (e : Effect i s c y) (h : notAfter (s.ch c).lastLoad s.tMax = true)
    (ht : i ≠ .reset → s.tMax = some s.now) : notAfter y.lastLoad s.tMax = true := by
  cases e with
  | kept hy | latched g hi hy | configured a m b hi hy | readBack mask cnt sta spare hi hm hy =>
    subst hy
    exact h
  | written b hi hy =>
    obtain ⟨n, k, rfl⟩ | rfl := writeData_ok hy
    · have htime : s.tMax = some s.now := ht (by rw [hi]; cases c <;> simp [Instr.outd])
      simp [htime, Machine.notAfter, loaded]
    · exact h
  | read v hi hy =>
    obtain ⟨sp, cp, hb, k, rfl⟩ := readData_writes hy
    exact h
  | queried hi hc hr hy => obtain rfl | rfl := hy <;> exact h
  | reset hi hy =>
    subst hy
    rfl

/-- RESET writes the reset value (R28), and nothing else writes the gate (decision D19). -/
theorem gateInv_of_effect (e : Effect i s c y) (h : (s.ch c).gate = gateAtReset c) : y.gate = gateAtReset c := by
  obtain hkept | ⟨-, rfl⟩ := e.gate_or_reset
  · exact hkept.trans h
  · rfl

/-- Every effect of an operation, at a time that admission has recorded, keeps a channel's invariant. -/
theorem inv_of_effect (e : Effect i s c y) (h : (s.ch c).Inv s.cfg s.tMax c) (ht : i ≠ .reset → s.tMax = some s.now) :
    y.Inv s.cfg s.tMax c := by
  obtain ⟨hload, hlatch, hcursor, hgate, hafter⟩ := h
  exact ⟨loadInv_of_effect e hload, latchInv_of_effect e hlatch, cursorInv_of_effect e hcursor,
    gateInv_of_effect e hgate, notAfter_of_effect e hafter ht⟩

end Effects

/-! ### The machine -/

/-- An operation at a time that admission has recorded keeps the invariant. -/
theorem exec_inv {i : Instr} {s t : State} (h : exec i s = .next t) (hs : s.Inv)
    (ht : i ≠ .reset → s.tMax = some s.now) : t.Inv := by
  obtain ⟨hcfg, -, -, htmax⟩ := operationsKeepParametersAndInterface i s t h
  rw [inv_iff] at hs ⊢
  intro c
  rw [hcfg, htmax]
  exact inv_of_effect (exec_effect h c) (hs c) ht

theorem notAfter_mono {stamp tMax : Option Nat} {now : Nat} (h : notAfter stamp tMax = true)
    (hle : ∀ m, tMax = some m → m ≤ now) : notAfter stamp (some now) = true := by
  cases stamp with
  | none => rfl
  | some a =>
    cases tMax with
    | none => cases h
    | some m => exact decide_eq_true ((of_decide_eq_true h).trans (hle m rfl))

theorem accept_inv {i : Instr} {r : Request} {rest : List Request} {s : State} (hs : s.Inv)
    (ht : hasTime i = true → timeRegresses s r.now = false) : (accept i r rest s).Inv := by
  rw [inv_iff] at hs ⊢
  intro c
  obtain ⟨hload, hlatch, hcursor, hgate, hafter⟩ := hs c
  rw [accept_ch, accept_cfg, accept_tMax]
  refine ⟨hload, hlatch, hcursor, hgate, ?_⟩
  split
  next hi => exact notAfter_mono hafter (timeRegresses_eq_false_iff.1 (ht hi))
  next => exact hafter

theorem inv_reset (cfg : Config) (tMax : Option Nat) (c : Chan) : (Channel.reset c).Inv cfg tMax c :=
  ⟨loadInv_reset cfg c, latchInv_reset c, ⟨rfl, rfl⟩, rfl, rfl⟩

/-- Settles O34: the reset record satisfies it in each channel. -/
theorem powerOnSatisfiesTheInvariant : Obligations.PowerOnSatisfiesTheInvariant :=
  ⟨inv_reset _ _ .c0, inv_reset _ _ .c1, inv_reset _ _ .c2⟩

/-- Settles O35: admission records the time, and then each channel's effect keeps its invariant. -/
theorem everyStepKeepsTheInvariant : Obligations.EveryStepKeepsTheInvariant := by
  intro s t hs h
  obtain ⟨-, ⟨-, rfl⟩ | ⟨r, rest, i, -, -, ht, he⟩⟩ := step_next h
  · exact hs
  · refine exec_inv he (accept_inv hs ht) fun hi => ?_
    rw [accept_tMax, accept_now, if_pos (hasTime_iff.2 hi), if_pos (hasTime_iff.2 hi)]

end Sys2Proof.Proofs.Invariant
end

section
/-! PROOFS. Time (40_counter_arithmetic.md R125): a later clock changes nothing that can be observed. The clock is
moved through each function of the model, then through the operations, then through the step. -/

namespace Sys2Proof.Proofs.Clock

open Sys2Proof Sys2Proof.Machine Sys2Proof.Claims
open Sys2Proof.Proofs.ChannelOps Sys2Proof.Proofs.Operations Sys2Proof.Proofs.Steps Sys2Proof.Proofs.Invariant

/-! ### Counting on a later clock -/

/-- The channel was never loaded, or at a time not later than `now`: its elapsed ticks have a value (R113). -/
def Dated (ch : Channel) (now : Nat) : Prop := ch.count ≠ 0 → ∃ l, ch.lastLoad = some l ∧ l ≤ now

theorem elapsedTicks_later (cfg : Config) {ch : Channel} {l now : Nat} (k : Nat) (h : ch.lastLoad = some l)
    (hl : l ≤ now) : elapsedTicks cfg (laterChannel k ch) (now + k) = elapsedTicks cfg ch now := by
  have hk : (laterChannel k ch).lastLoad = some (l + k) := by simp [laterChannel, h]
  rw [elapsedTicks_loaded cfg ch h hl, elapsedTicks_loaded cfg _ hk (Nat.add_le_add_right hl k), Nat.add_sub_add_right]

theorem liveCount_later (cfg : Config) {ch : Channel} {now : Nat} (k : Nat) (h : Dated ch now) :
    liveCount cfg (laterChannel k ch) (now + k) = liveCount cfg ch now := by
  by_cases h0 : ch.count = 0
  · rw [liveCount_unloaded cfg ch now h0, liveCount_unloaded cfg (laterChannel k ch) _ h0]
  · obtain ⟨l, hload, hl⟩ := h h0
    have hcount : (laterChannel k ch).count = ch.count := rfl
    rw [liveCount, liveCount, elapsedTicks_later cfg k hload hl, hcount]

theorem outputLevel_later (cfg : Config) {ch : Channel} {now : Nat} (k : Nat) (h : Dated ch now) :
    outputLevel cfg (laterChannel k ch) (now + k) = outputLevel cfg ch now := by
  have hcount : (laterChannel k ch).count = ch.count := rfl
  have hmode : (laterChannel k ch).mode = ch.mode := rfl
  by_cases h0 : ch.count = 0
  · simp [outputLevel, hcount, h0]
  · obtain ⟨l, hload, hl⟩ := h h0
    have hphase : phase cfg (laterChannel k ch) (now + k) = phase cfg ch now := by
      rw [phase, phase, elapsedTicks_later cfg k hload hl, hcount]
    rw [outputLevel, outputLevel, hphase, hcount, hmode]

/-! ### The channel operations on a later clock -/

theorem readBack_later (cfg : Config) (cnt sta : Bool) {ch : Channel} {now : Nat} (k : Nat) (h : Dated ch now) :
    readBack cfg cnt sta (laterChannel k ch) (now + k) = laterChannel k (readBack cfg cnt sta ch now) := by
  have hlevel : levelOf cfg (laterChannel k ch) (now + k) = levelOf cfg ch now := by
    rw [levelOf, levelOf, outputLevel_later cfg k h]
  rw [readBack, hlevel, liveCount_later cfg k h]
  rfl

theorem latchCounter_later (cfg : Config) {ch : Channel} {now : Nat} (k : Nat) (h : Dated ch now) :
    latchCounter cfg (laterChannel k ch) (now + k) = laterChannel k (latchCounter cfg ch now) := by
  rw [Frames.latchCounter_eq, Frames.latchCounter_eq, readBack_later cfg true false k h]

theorem turned_later (mask : BitVec 3) (cnt sta : Bool) (d : Chan) (cfg : Config) {ch : Channel} {now : Nat} (k : Nat)
    (h : Dated ch now) :
    turned mask cnt sta d cfg (laterChannel k ch) (now + k) = laterChannel k (turned mask cnt sta d cfg ch now) := by
  rw [turned, turned, readBack_later cfg cnt sta k h, apply_ite (laterChannel k)]

/-- A write needs no earlier load: it loads at the time of the write or keeps its bytes. -/
theorem writeData_later (cfg : Config) (ch : Channel) (b : Byte) (now k : Nat) :
    writeData cfg (laterChannel k ch) b (now + k) = (writeData cfg ch b now).map (laterChannel k) := by
  cases hw : ch.wcursor with
  | lo => rw [writeData_lo hw, writeData_lo (ch := laterChannel k ch) hw]; rfl
  | hi => rw [writeData_hi hw, writeData_hi (ch := laterChannel k ch) hw]; rfl
  | wlo => rw [writeData_wlo hw, writeData_wlo (ch := laterChannel k ch) hw]; rfl
  | whi => rw [writeData_whi hw, writeData_whi (ch := laterChannel k ch) hw]; rfl
  | unprog => rw [writeData_unprog hw, writeData_unprog (ch := laterChannel k ch) hw]; rfl

theorem readCounterLatch_later (ch : Channel) (k : Nat) :
    readCounterLatch (laterChannel k ch) = (readCounterLatch ch).map (Prod.map (laterChannel k) id) := by
  have hmode : (laterChannel k ch).ctMode = ch.ctMode := rfl
  have hhi : (laterChannel k ch).ctHi = ch.ctHi := rfl
  rw [readCounterLatch, readCounterLatch, hmode, hhi]
  split
  case h_4 => split <;> rfl
  all_goals rfl

theorem readLive_later (cfg : Config) {ch : Channel} {now : Nat} (k : Nat) (h : Dated ch now) :
    readLive cfg (laterChannel k ch) (now + k) = (readLive cfg ch now).map (Prod.map (laterChannel k) id) := by
  have hcursor : (laterChannel k ch).rcursor = ch.rcursor := rfl
  simp only [readLive, liveCount_later cfg k h, hcursor]
  cases ch.rcursor <;> rfl

theorem readData_later (cfg : Config) {ch : Channel} {now : Nat} (k : Nat) (h : Dated ch now) :
    readData cfg (laterChannel k ch) (now + k) = (readData cfg ch now).map (Prod.map (laterChannel k) id) := by
  have hst : (laterChannel k ch).stPend = ch.stPend := rfl
  have hct : (laterChannel k ch).ctPend = ch.ctPend := rfl
  rw [readData, readData, hst, hct, readCounterLatch_later, readLive_later cfg k h]
  split_ifs <;> rfl

/-! ### The operations on a later clock -/

theorem later_ch (k : Nat) (s : State) (c : Chan) : (later k s).ch c = laterChannel k (s.ch c) := by
  cases c <;> rfl

theorem later_setCh (k : Nat) (s : State) (c : Chan) (x : Channel) :
    later k (s.setCh c x) = (later k s).setCh c (laterChannel k x) := by
  cases c <;> rfl

theorem later_quiet (k : Nat) (s : State) : later k (quiet s) = quiet (later k s) := rfl

section Operations

variable {s : State} (k : Nat)

theorem exec_latch_later (c : Chan) (g : BitVec 4) (h : Dated (s.ch c) s.now) :
    exec (.latch c g) (later k s) = laterOutcome k (exec (.latch c g) s) := by
  have hl : latchCounter (later k s).cfg ((later k s).ch c) (later k s).now = _ :=
    later_ch k s c ▸ latchCounter_later s.cfg k h
  rw [exec_latch_eq, exec_latch_eq, hl, laterOutcome, later_setCh, later_quiet]

theorem exec_modeset_later (c : Chan) (a : Access) (m : BitVec 3) (b : Bool) :
    exec (.modeset c a m b) (later k s) = laterOutcome k (exec (.modeset c a m b) s) := by
  rw [exec_modeset_eq, exec_modeset_eq, later_ch]
  cases c <;> rfl

theorem exec_readback_later (mask : BitVec 3) (cnt sta spare : Bool) (h : ∀ c, Dated (s.ch c) s.now) :
    exec (.readback mask cnt sta spare) (later k s) = laterOutcome k (exec (.readback mask cnt sta spare) s) := by
  have hfault : ∀ d, TurnFaults mask sta d ((later k s).ch d) ↔ TurnFaults mask sta d (s.ch d) := fun d => by
    rw [later_ch]
    rfl
  by_cases hf : ∃ d, TurnFaults mask sta d (s.ch d)
  · have hf' : ∃ d, TurnFaults mask sta d ((later k s).ch d) := hf.imp fun d => (hfault d).2
    rw [exec_readback_of_fault cnt spare hf, exec_readback_of_fault cnt spare hf']
    rfl
  · have hno := not_exists.1 hf
    have hno' : ∀ d, ¬ TurnFaults mask sta d ((later k s).ch d) := fun d hd => hno d ((hfault d).1 hd)
    have hturn : ∀ d, turned mask cnt sta d (later k s).cfg (laterChannel k (s.ch d)) (later k s).now = _ :=
      fun d => turned_later mask cnt sta d s.cfg k (h d)
    have h0 : turned mask cnt sta .c0 (later k s).cfg (later k s).ch0 (later k s).now = _ := hturn .c0
    have h1 : turned mask cnt sta .c1 (later k s).cfg (later k s).ch1 (later k s).now = _ := hturn .c1
    have h2 : turned mask cnt sta .c2 (later k s).cfg (later k s).ch2 (later k s).now = _ := hturn .c2
    rw [exec_readback_of_no_fault cnt spare hno, exec_readback_of_no_fault cnt spare hno', h0, h1, h2]
    rfl

theorem exec_outd_later (c : Chan) (b : Byte) :
    exec (.outd c b) (later k s) = laterOutcome k (exec (.outd c b) s) := by
  have hw : writeData (later k s).cfg ((later k s).ch c) b (later k s).now = _ :=
    later_ch k s c ▸ writeData_later s.cfg (s.ch c) b s.now k
  cases hx : writeData s.cfg (s.ch c) b s.now with
  | ok x =>
    rw [hx] at hw
    rw [exec_outd_of_ok hx, exec_outd_of_ok hw, laterOutcome, later_setCh, later_quiet]
  | error r =>
    rw [hx] at hw
    rw [exec_outd_of_error hx, exec_outd_of_error hw]
    rfl

theorem exec_ind_later (c : Chan) (h : Dated (s.ch c) s.now) :
    exec (.ind c) (later k s) = laterOutcome k (exec (.ind c) s) := by
  have hr : readData (later k s).cfg ((later k s).ch c) (later k s).now = _ :=
    later_ch k s c ▸ readData_later s.cfg k h
  cases hx : readData s.cfg (s.ch c) s.now with
  | ok p =>
    rw [hx] at hr
    rw [exec_ind_of_ok hx, exec_ind_of_ok hr]
    cases c <;> rfl
  | error r =>
    rw [hx] at hr
    rw [exec_ind_of_error hx, exec_ind_of_error hr]
    rfl

theorem exec_inaux_later (h : Dated s.ch2 s.now) :
    exec .inaux (later k s) = laterOutcome k (exec .inaux s) := by
  have hl : outputLevel (later k s).cfg (later k s).ch2 (later k s).now = _ := outputLevel_later s.cfg k h
  cases hx : outputLevel s.cfg s.ch2 s.now with
  | ok lvl => rw [exec_inaux_of_level hx, exec_inaux_of_level (hl.trans hx)]; rfl
  | error r => rw [exec_inaux_of_fault hx, exec_inaux_of_fault (hl.trans hx)]; rfl

theorem exec_query_later (h : Dated s.ch0 s.now) : exec .query (later k s) = laterOutcome k (exec .query s) := by
  obtain ⟨q1, q2, q3, q4⟩ := queryDetectsTheWrap s
  obtain ⟨q1', q2', q3', q4'⟩ := queryDetectsTheWrap (later k s)
  have hlive : liveCount (later k s).cfg (later k s).ch0 (later k s).now = liveCount s.cfg s.ch0 s.now :=
    liveCount_later s.cfg k h
  have hwrap : wrapSeen (later k s) = wrapSeen s := by
    rw [wrapSeen, hlive]
    rfl
  rw [hwrap, hlive] at q2' q4'
  rw [hwrap] at q3'
  obtain hr | ⟨hw, hm⟩ | ⟨hw, h2, h3⟩ | ⟨hr, hw⟩ := query_cases s
  · rw [q1 hr, q1' hr]
    rfl
  · rw [q2 hw hm, q2' hw hm]
    rfl
  · rw [q3 hw h2 h3, q3' hw h2 h3]
    rfl
  · rw [q4 hr hw, q4' hr hw]
    rfl

theorem exec_reset_later : exec .reset (later k s) = laterOutcome k (exec .reset s) := by
  rw [resetRestoresThePowerOnChannels, resetRestoresThePowerOnChannels]
  rfl

/-- Only RESET may run before its channels' loads: it reads no time. -/
theorem exec_later (i : Instr) (h : i ≠ .reset → ∀ c, Dated (s.ch c) s.now) :
    exec i (later k s) = laterOutcome k (exec i s) := by
  obtain ⟨c, g, rfl⟩ | ⟨c, a, m, b, rfl⟩ | ⟨mask, cnt, sta, spare, rfl⟩ | ⟨c, b, rfl⟩ | ⟨c, rfl⟩ | rfl | rfl | rfl |
    rfl := Instr.kinds i
  · exact exec_latch_later k c g (h (by cases c <;> simp [Instr.latch]) c)
  · exact exec_modeset_later k c a m b
  · exact exec_readback_later k mask cnt sta spare (h (by simp))
  · exact exec_outd_later k c b
  · exact exec_ind_later k c (h (by cases c <;> simp [Instr.ind]) c)
  · rw [incmdEntersTheFaultedState, incmdEntersTheFaultedState]
    rfl
  · exact exec_inaux_later k (h (by simp) .c2)
  · exact exec_query_later k (h (by simp) .c0)
  · exact exec_reset_later k

end Operations

/-! ### The step on a later clock -/

theorem dated_of_inv {cfg : Config} {now : Nat} {c : Chan} {ch : Channel} (h : ch.Inv cfg (some now) c) :
    Dated ch now := by
  obtain ⟨⟨-, hload, -⟩, -, -, -, hafter⟩ := h
  intro hcount
  cases hl : ch.lastLoad with
  | none => exact absurd (hload.2 hl) hcount
  | some l =>
    rw [hl] at hafter
    exact ⟨l, rfl, of_decide_eq_true hafter⟩

/-- The request on a clock that reads `k` more. -/
def laterRequest (k : Nat) (r : Request) : Request := { r with now := r.now + k }

theorem timeRegresses_later (k : Nat) (s : State) (now : Nat) :
    timeRegresses (later k s) (now + k) = timeRegresses s now := by
  have htmax : (later k s).tMax = s.tMax.map (· + k) := rfl
  rw [timeRegresses, timeRegresses, htmax]
  cases s.tMax with
  | none => rfl
  | some m => simp

theorem accept_later (k : Nat) (i : Instr) (q : Request) (rest : List Request) (s : State) :
    accept i (laterRequest k q) (rest.map (laterRequest k)) (later k s) = later k (accept i q rest s) := by
  rw [accept, accept, apply_ite (later k)]
  rfl

/-- Settles O36: the later step takes the same turn of admission, and runs the same operation on a later clock. -/
theorem onlyTimeDifferencesAreObservable : Obligations.OnlyTimeDifferencesAreObservable := by
  intro k s hs
  cases hf : s.faulted with
  | some f =>
    rw [step_of_faulted hf, step_of_faulted (s := later k s) hf]
    rfl
  | none =>
    cases hq : s.requests with
    | nil =>
      have hq' : (later k s).requests = [] := by simp [later, hq]
      rw [step_of_idle hf hq, step_of_idle (s := later k s) hf hq']
      rfl
    | cons q rest =>
      have hq' : (later k s).requests = laterRequest k q :: rest.map (laterRequest k) := by
        simp [later, hq, laterRequest]
      have ht : timeRegresses (later k s) (laterRequest k q).now = timeRegresses s q.now :=
        timeRegresses_later k s q.now
      cases hd : decodeWord s.cfg q.word with
      | illegal why =>
        rw [step_of_illegal hf hq hd, step_of_illegal (s := later k s) hf hq' hd]
        rfl
      | instr i =>
        by_cases hreg : i ≠ .reset ∧ timeRegresses s q.now = true
        · obtain ⟨hi, hr⟩ := hreg
          rw [step_of_regression hf hq hd hi hr, step_of_regression (s := later k s) hf hq' hd hi (ht.trans hr)]
          rfl
        · have hok : i ≠ .reset → timeRegresses s q.now = false := fun hi =>
            Bool.eq_false_iff.2 fun hr => hreg ⟨hi, hr⟩
          rw [step_of_accepted hf hq hd hok,
            step_of_accepted (s := later k s) hf hq' hd fun hi => ht.trans (hok hi), accept_later]
          refine exec_later k i fun hi c => ?_
          have hinv : (accept i q rest s).Inv := accept_inv hs fun _ => hok hi
          have hc := inv_iff.1 hinv c
          rw [accept_tMax, if_pos (hasTime_iff.2 hi)] at hc
          rw [accept_now, if_pos (hasTime_iff.2 hi)]
          exact dated_of_inv hc

end Sys2Proof.Proofs.Clock
end

section
/-! PROOFS. Sequences of operations at any times (20_memory.md R62; 41_channel_ops.md R143; 43_scheduler.md R202;
70_reset_and_hazards.md R256): what each operation leaves in its channel, composed. -/

namespace Sys2Proof.Proofs.Sequences

open Sys2Proof Sys2Proof.Machine Sys2Proof.Claims
open Sys2Proof.Proofs.Counting Sys2Proof.Proofs.CounterArithmetic Sys2Proof.Proofs.Exceptions
open Sys2Proof.Proofs.Operations Sys2Proof.Proofs.Frames

/-- The time of the next operation is no part of a channel. -/
theorem withNow_ch (t : State) (n : Nat) (c : Chan) : ({ t with now := n } : State).ch c = t.ch c := by
  cases c <;> rfl

/-! ### Writing a word (R62, R169) -/

section Words

variable {c : Chan} {s t : State} {b : Byte}

theorem exec_outd_low_ch (hw : (s.ch c).wcursor = .wlo) (h : exec (.outd c b) s = .next t) :
    t.ch c = { s.ch c with interim := b, wcursor := .whi } := by
  rw [exec_outd_of_ok (writeData_wlo hw ..)] at h
  cases h
  exact State.ch_setCh_same ..

theorem exec_outd_high_ch (hw : (s.ch c).wcursor = .whi) (h : exec (.outd c b) s = .next t) :
    t.ch c = { loaded s.cfg (s.ch c) (256 * b.toNat + (s.ch c).interim.toNat) s.now with wcursor := .wlo } := by
  rw [exec_outd_of_ok (writeData_whi hw ..)] at h
  cases h
  exact State.ch_setCh_same ..

theorem byte_eq_zero_iff (b : Byte) : b = 0 ↔ b.toNat = 0 := BitVec.toNat_eq

theorem word_eq_zero_iff (lo hi : Byte) : 256 * hi.toNat + lo.toNat = 0 ↔ lo = 0 ∧ hi = 0 := by
  rw [byte_eq_zero_iff, byte_eq_zero_iff]
  omega

/-- Two bytes in the word pattern: the first is held, the second loads both at its own time. -/
theorem word_write_ch {lo hi : Byte} {u : State} {n : Nat} (hw : (s.ch c).wcursor = .wlo)
    (h1 : exec (.outd c lo) s = .next t) (h2 : exec (.outd c hi) { t with now := n } = .next u) :
    (t.ch c).count = (s.ch c).count ∧
      (u.ch c).count = (if lo = 0 ∧ hi = 0 then 65536 else 256 * hi.toNat + lo.toNat) ∧
      (u.ch c).lastLoad = some n ∧ (u.ch c).wcursor = .wlo ∧ (u.ch c).running = true := by
  have ht := exec_outd_low_ch hw h1
  have hw2 : (({ t with now := n } : State).ch c).wcursor = .whi := by rw [withNow_ch, ht]
  have hu := exec_outd_high_ch hw2 h2
  rw [withNow_ch t n, ht] at hu
  rw [ht, hu]
  exact ⟨rfl, if_congr (word_eq_zero_iff lo hi) rfl rfl, rfl, rfl, rfl⟩

/-- Settles O47: the count, time, cursor and `running` that the second byte leaves. -/
theorem wordWriteLoadsLowThenHigh : Obligations.WordWriteLoadsLowThenHigh :=
  fun _ _ _ _ _ _ _ hw h1 h2 => word_write_ch hw h1 h2

theorem exec_modeset_ch {a : Access} {m : BitVec 3} {bcd : Bool} (h : exec (.modeset c a m bcd) s = .next t) :
    t.ch c = configureChannel a m bcd (s.ch c) := by
  rw [exec_modeset_eq] at h
  cases h
  cases c <;> rfl

end Words

/-- Settles O49: MODESET.WORD sets the write cursor back to the low byte, whatever is held. -/
theorem modesetAbandonsAHalfWrittenWord : Obligations.ModesetAbandonsAHalfWrittenWord := by
  intro c m b stale lo hi s t u v w n1 n2 n3 hw h1 h2 h3 h4
  have ht := exec_outd_low_ch hw h1
  have hu := exec_modeset_ch h2
  rw [withNow_ch t n1, ht] at hu
  have hw2 : (({ u with now := n2 } : State).ch c).wcursor = .wlo := by rw [withNow_ch, hu]; rfl
  obtain ⟨hv, hcount, -⟩ := word_write_ch hw2 h3 h4
  rw [withNow_ch u n2, hu] at hv
  exact ⟨hv, hcount⟩

/-! ### Reading a latched word (41 R143) -/

theorem liveCount_lt_of_count_le {cfg : Config} {ch : Channel} (h : ch.count ≤ 65536) (now : Nat) :
    liveCount cfg ch now < 65536 := by
  by_cases h0 : ch.count = 0
  · rw [liveCount_unloaded cfg ch now h0]
    decide
  · exact (liveCount_lt cfg ch now h0).trans_le h

theorem toNat_frozenCount_word {n : Nat} (h : n < 65536) : (frozenCount 3 n).toNat = n :=
  (BitVec.toNat_ofNat ..).trans (Nat.mod_eq_of_lt h)

section Latches

variable {c : Chan} {s t : State}

theorem exec_latch_ch {g : BitVec 4} (h : exec (.latch c g) s = .next t) :
    t.ch c = latchCounter s.cfg (s.ch c) s.now := by
  rw [exec_latch_eq] at h
  cases h
  exact State.ch_setCh_same ..

theorem latchCounter_of_pending (cfg : Config) {ch : Channel} (now : Nat) (h : ch.ctPend = true) :
    latchCounter cfg ch now = ch :=
  if_pos h

theorem latchCounter_of_word (cfg : Config) {ch : Channel} (now : Nat) (h : ch.ctPend = false) (hw : ch.rwMode = 3) :
    latchCounter cfg ch now =
      { ch with
        ctMode := 3, ctHi := false, ctPend := true, counterLatch := frozenCount 3 (liveCount cfg ch now) } := by
  simp [latchCounter, h, hw, snapshot_eq_frozenCount]

theorem exec_ind_low (hst : (s.ch c).stPend = false) (hct : (s.ch c).ctPend = true) (hm : (s.ch c).ctMode = 3)
    (hh : (s.ch c).ctHi = false) (h : exec (.ind c) s = .next t) :
    t.ch c = { s.ch c with ctHi := true } ∧
      t.rdata = some (BitVec.ofNat 8 ((s.ch c).counterLatch.toNat % 256)) := by
  cases ((indConsumesTheCounterLatch c s hst hct).2.1 hm hh).symm.trans h
  exact ⟨by cases c <;> rfl, rfl⟩

theorem exec_ind_high (hst : (s.ch c).stPend = false) (hct : (s.ch c).ctPend = true) (hm : (s.ch c).ctMode = 3)
    (hh : (s.ch c).ctHi = true) (h : exec (.ind c) s = .next t) :
    (t.ch c).ctPend = false ∧ t.rdata = some (BitVec.ofNat 8 ((s.ch c).counterLatch.toNat / 256)) := by
  cases ((indConsumesTheCounterLatch c s hst hct).2.2 hm hh).symm.trans h
  exact ⟨by cases c <;> rfl, rfl⟩

end Latches

theorem bytes_of_word {n : Nat} (h : n < 65536) :
    256 * (BitVec.ofNat 8 (n / 256)).toNat + (BitVec.ofNat 8 (n % 256)).toNat = n := by
  rw [BitVec.toNat_ofNat, BitVec.toNat_ofNat]
  omega

/-- Settles O48: the latch, its low byte, a LATCH that finds it pending, its high byte. -/
theorem latchedWordReadsTheFrozenCount : Obligations.LatchedWordReadsTheFrozenCount := by
  intro c g g' s t u v w n1 n2 n3 hrw hct hst hcount h1 h2 h3 h4
  have hlive : liveCount s.cfg (s.ch c) s.now < 65536 := liveCount_lt_of_count_le hcount s.now
  have ht := exec_latch_ch h1
  rw [latchCounter_of_word _ _ hct hrw] at ht
  have ht' := (withNow_ch t n1 c).trans ht
  obtain ⟨hu, hlow⟩ := exec_ind_low (by rw [ht']; exact hst) (by rw [ht']) (by rw [ht']) (by rw [ht']) h2
  rw [ht'] at hu hlow
  have hu' := (withNow_ch u n2 c).trans hu
  have hv := exec_latch_ch h3
  rw [hu', latchCounter_of_pending] at hv
  · have hv' := (withNow_ch v n3 c).trans hv
    obtain ⟨hw, hhigh⟩ := exec_ind_high (by rw [hv']; exact hst) (by rw [hv']) (by rw [hv']) (by rw [hv']) h4
    rw [hv'] at hhigh
    refine ⟨_, _, hlow, hhigh, ?_, hw⟩
    rw [toNat_frozenCount_word hlive]
    exact bytes_of_word hlive
  · rfl

/-! ### The first QUERY after a load (43 R202) -/

theorem loaded_count_ne_zero (cfg : Config) (ch : Channel) (v now : Nat) : (loaded cfg ch v now).count ≠ 0 := by
  change (if v = 0 then 65536 else v) ≠ 0
  split <;> omega

/-- A completing write loads the reload value that `completesLoad` names. -/
theorem writeData_eq_loaded {ch : Channel} {b : Byte} {n : Nat} (h : completesLoad ch b n) (cfg : Config) (now : Nat) :
    ∃ v k, writeData cfg ch b now = .ok { loaded cfg ch v now with wcursor := k } ∧
      (loaded cfg ch v now).count = n := by
  obtain ⟨hw, rfl⟩ | ⟨hw, rfl⟩ | ⟨hw, rfl⟩ := h
  · refine ⟨b.toNat, .lo, ?_, if_congr (byte_eq_zero_iff b).symm rfl rfl⟩
    rw [writeData_lo hw, ← hw]
    rfl
  · have hzero : 256 * b.toNat = 0 ↔ b = 0 := by
      rw [byte_eq_zero_iff]
      omega
    refine ⟨256 * b.toNat, .hi, ?_, if_congr hzero rfl rfl⟩
    rw [writeData_hi hw, ← hw]
    rfl
  · have hzero := word_eq_zero_iff ch.interim b
    rw [and_comm] at hzero
    exact ⟨_, .wlo, writeData_whi hw .., if_congr hzero rfl rfl⟩

/-- A channel loaded at `l` and not observed since has wrapped exactly off the multiples of its count. -/
theorem wrapSeen_iff_of_loaded {s : State} {l : Nat} (hn : s.ch0.count ≠ 0) (hl : s.ch0.lastLoad = some l)
    (hle : l ≤ s.now) (hr : s.ch0.running = true) (hc : s.ch0.lastCount = 0) :
    wrapSeen s ↔ (s.now - l) * s.cfg.oscHz / 1000000 % s.ch0.count ≠ 0 := by
  have hpos : 0 < s.ch0.count := Nat.pos_of_ne_zero hn
  rw [wrapSeen, hc, liveCount_loaded s.cfg s.ch0 hn hl hle, Nat.pos_iff_ne_zero, ne_eq, countAfter_eq_zero_iff hpos]
  exact and_iff_right hr

theorem exec_query_interrupts {s t : State} (h : exec .query s = .next t) :
    interrupts t.events = if wrapSeen s then [.lower, .raise] else [] := by
  rw [exec_query_events h]
  split <;> rfl

theorem interrupts_iff_wrapSeen {s t : State} (h : exec .query s = .next t) :
    (interrupts t.events = [.lower, .raise] ↔ wrapSeen s) ∧ (interrupts t.events = [] ↔ ¬ wrapSeen s) := by
  rw [exec_query_interrupts h]
  by_cases hw : wrapSeen s
  · rw [if_pos hw]
    exact ⟨iff_of_true rfl hw, iff_of_false (by decide) (not_not.2 hw)⟩
  · rw [if_neg hw]
    exact ⟨iff_of_false (by decide) hw, iff_of_true rfl hw⟩

/-- What a QUERY of a running channel 0 leaves in `running` (43 R200). -/
theorem exec_query_running {s t : State} (h : exec .query s = .next t) (hr : s.ch0.running = true) :
    (wrapSeen s → s.ch0.mode ≠ 2 → s.ch0.mode ≠ 3 → t.ch0.running = false) ∧
      (wrapSeen s → s.ch0.mode = 2 ∨ s.ch0.mode = 3 → t.ch0.running = true) ∧
      (¬ wrapSeen s → t.ch0.running = true) := by
  obtain ⟨-, hperiodic, honeShot, hnone⟩ := queryDetectsTheWrap s
  refine ⟨fun hw h2 h3 => ?_, fun hw hm => ?_, fun hw => ?_⟩
  · cases (honeShot hw h2 h3).symm.trans h
    rfl
  · cases (hperiodic hw hm).symm.trans h
    exact hr
  · cases (hnone hr hw).symm.trans h
    exact hr

/-- Settles O50: the QUERY finds channel 0 as the load left it, with `last_count` 0. -/
theorem firstQueryAfterALoadReportsAWrap : Obligations.FirstQueryAfterALoadReportsAWrap := by
  intro b n s t u later hload hle h1 h2
  obtain ⟨v, k, hx, rfl⟩ := writeData_eq_loaded hload s.cfg s.now
  cases (exec_outd_of_ok (c := .c0) hx).symm.trans h1
  obtain ⟨hseen, hunseen⟩ := interrupts_iff_wrapSeen h2
  obtain ⟨honeShot, hperiodic, hnone⟩ := exec_query_running h2 rfl
  rw [hseen, hunseen]
  exact ⟨rfl, wrapSeen_iff_of_loaded (loaded_count_ne_zero s.cfg s.ch0 v s.now) rfl hle rfl rfl, honeShot, hperiodic,
    hnone⟩

end Sys2Proof.Proofs.Sequences
end
